-- ==== Sys2Proof/Word.lean ====
section
/-! DEFINITION. The widths of 00_scope.md R14: bytes, half-words and words as bit vectors. -/

namespace Sys2Proof

/-- `u8` of 00_scope.md R14: a register address, a wire byte, an RDATA entry. -/
abbrev Byte := BitVec 8

/-- A 16-bit pattern: an `i16` of 00_scope.md R14 is this pattern read with `BitVec.toInt`. -/
abbrev Half := BitVec 16

/-- `u32` of 00_scope.md R14: a command word or a host register (`CMD_WIDTH` of R12). -/
abbrev Word := BitVec 32

end Sys2Proof
end

