-- ==== Sys2Proof/Syntax.lean ====
section
/-! DEFINITION. The six host commands of 30_encoding.md R77, the five configuration fields of
42_rmw.md R140, and the refusal reasons of 60_exceptions.md R185. -/

namespace Sys2Proof

/-- The configuration fields, in the index order 0..4 of 42_rmw.md R140. -/
inductive Field where
  | mode
  | lpMode
  | odr
  | fs
  | lowNoise
deriving DecidableEq, Repr

/-- One constructor per row of the opcode table (30_encoding.md R77). -/
inductive Instr where
  /-- READ_REG: read the device register `a` (41_register_access.md R120). -/
  | readReg (a : Byte)
  /-- WRITE_REG: write `b` to the device register `a` (41_register_access.md R125). -/
  | writeReg (a b : Byte)
  /-- RMW: clear the bits of `clear`, then set those of `set` (42_rmw.md R143). -/
  | rmw (a clear set : Byte)
  /-- SET_FIELD: give a configuration field a code (42_rmw.md R146). -/
  | setField (f : Field) (code : Byte)
  /-- BURST_READ: read `n` consecutive registers from `a` (43_burst.md R162). -/
  | burstRead (a n : Byte)
  /-- READ_AXES: read and reassemble the three axis samples (43_burst.md R166). -/
  | readAxes
deriving DecidableEq, Repr

/-- The value of `rej_reason` (60_exceptions.md R185): why the last CMD write was refused. -/
inductive RejReason where
  /-- Code 0: the last CMD write was accepted, or there was none since reset. -/
  | none
  /-- Code 1: OPC is 0x0 or 0x7..0xF (30_encoding.md R84). -/
  | illegalOpc
  /-- Code 2: a must-be-zero field is not zero (30_encoding.md R80). -/
  | reserved
  /-- Code 3: the address is not in VALID_ADDR (30_encoding.md R81). -/
  | badAddr
  /-- Code 4: the burst's range is empty or leaves VALID_ADDR (30_encoding.md R82). -/
  | badCount
  /-- Code 5: no such field, or no such code of it (30_encoding.md R83). -/
  | badField
  /-- Code 6: CMD written while INIT or RUN (60_exceptions.md R184). -/
  | busy
  /-- Code 7: CMD written in FAILED (60_exceptions.md R190). -/
  | initFailed
deriving DecidableEq, Repr

end Sys2Proof
end

