-- ==== Sys2Proof/Config.lean ====
section
/-! DEFINITION. The implementation parameters of 00_scope.md R7 to R13, and the free values of
93_implementation_defined.md U1 and U2. -/

namespace Sys2Proof

/-- The OPEN parameters (00_scope.md R8 to R11, 20_memory.md R52). They are fixed for a given engine
(10_state.md R41); `State.cfg` carries them (log 1). -/
structure Config where
  /-- `AI_REG`, the register that holds the auto-increment flag (R8). -/
  aiReg : Byte
  /-- `ID_ADDR`, the identity register (R9). -/
  idAddr : Byte
  /-- `ID_EXPECTED`, the published identity constant (R9). -/
  idExpected : Byte
  /-- `XL_ADDR`, the first X-axis low byte (R10). -/
  xlAddr : Byte
  /-- `CFG_REG_A`, the register of MODE, LP_MODE and ODR (R11). -/
  cfgRegA : Byte
  /-- `CFG_REG_B`, the register of FS and LOW_NOISE (R11). -/
  cfgRegB : Byte
  /-- `HOST_BASE`, where the platform puts the host window (20_memory.md R52; log 18). -/
  hostBase : Nat
deriving DecidableEq, Repr

/-- `TEST_CFG` of 00_scope.md R13. PRESUMED: its numbers are the family's suggested defaults, and the
spec gives HOST_BASE no default at all (log 1, log 18). -/
def Config.testCfg : Config :=
  { aiReg := 0x21, idAddr := 0x0F, idExpected := 0x44, xlAddr := 0x28, cfgRegA := 0x20,
    cfgRegB := 0x25, hostBase := 0 }

/-- A free byte: number `i` of draw `n`. Nothing constrains it (93_implementation_defined.md U1; log 6). -/
opaque Config.freeByte (n i : Nat) : Byte

/-- A free 16-bit pattern: number `i` of draw `n`. Nothing constrains it (93_implementation_defined.md
U2; log 6). -/
opaque Config.freeHalf (n i : Nat) : Half

end Sys2Proof
end

