-- ==== Sys2Proof/Decode.lean ====
section
/-! DEFINITION. The host command word (30_encoding.md R75 to R86): its fields, the validity checks,
the decoder, and the encoder written from the same table. -/

namespace Sys2Proof

/-- `VALID_ADDR` of 00_scope.md R7, on numbers, so that a range check cannot wrap. -/
def validAddrNat (a : Nat) : Bool :=
  (0x0D ≤ a && a ≤ 0x0F) || (0x20 ≤ a && a ≤ 0x3F)

/-- `a ∈ VALID_ADDR` (00_scope.md R7, 20_memory.md R51). -/
def validAddr (a : Byte) : Bool := validAddrNat a.toNat

/-- `range_ok` of 30_encoding.md R82. -/
def rangeOk (a n : Byte) : Bool :=
  1 ≤ n.toNat && (List.range n.toNat).all fun i => validAddrNat (a.toNat + i)

/-- The number of legal codes of a field (00_scope.md R7, 42_rmw.md R140). -/
def Field.ncodes : Field → Nat
  | .mode => 3
  | .lpMode => 4
  | .odr => 10
  | .fs => 4
  | .lowNoise => 2

/-- The field-table index of a field (42_rmw.md R140). -/
def Field.index : Field → BitVec 4
  | .mode => 0
  | .lpMode => 1
  | .odr => 2
  | .fs => 3
  | .lowNoise => 4

/-- The field of an index; none from `NFIELDS = 5` on (30_encoding.md R83). -/
def fieldOfIndex (idx : BitVec 4) : Option Field :=
  match idx.toNat with
  | 0 => some .mode
  | 1 => some .lpMode
  | 2 => some .odr
  | 3 => some .fs
  | 4 => some .lowNoise
  | _ => none

/-- `code < FIELD[idx].ncodes` (30_encoding.md R83). -/
def codeOk (f : Field) (code : Byte) : Bool := decide (code.toNat < f.ncodes)

/-- `OPC = w[3:0]` (30_encoding.md R75). -/
def opcOf (w : Word) : BitVec 4 := w.extractLsb' 0 4

/-- `IDX = w[7:4]` (30_encoding.md R75). -/
def idxOf (w : Word) : BitVec 4 := w.extractLsb' 4 4

/-- `A = w[15:8]` (30_encoding.md R75). -/
def aOf (w : Word) : Byte := w.extractLsb' 8 8

/-- `B = w[23:16]` (30_encoding.md R75). -/
def bOf (w : Word) : Byte := w.extractLsb' 16 8

/-- `C = w[31:24]` (30_encoding.md R75). -/
def cOf (w : Word) : Byte := w.extractLsb' 24 8

/-- The fields a command does not use, taken together, are zero (30_encoding.md R80); each arm of
`decode` lists its own by the "must be zero" column of R77. -/
def allZero (idx : BitVec 4) (fields : List Byte) : Bool :=
  decide (idx = 0) && fields.all fun b => decide (b = 0)

/-- `decode` of 30_encoding.md R78: opcode, then must-be-zero fields, then the field check of
SET_FIELD, then the address, then the burst's range; the first check that fails gives the reason. -/
def decode (w : Word) : Except RejReason Instr :=
  match (opcOf w).toNat with
  | 1 =>
    if !allZero (idxOf w) [bOf w, cOf w] then .error .reserved
    else if !validAddr (aOf w) then .error .badAddr
    else .ok (.readReg (aOf w))
  | 2 =>
    if !allZero (idxOf w) [cOf w] then .error .reserved
    else if !validAddr (aOf w) then .error .badAddr
    else .ok (.writeReg (aOf w) (bOf w))
  | 3 =>
    if !allZero (idxOf w) [] then .error .reserved
    else if !validAddr (aOf w) then .error .badAddr
    else .ok (.rmw (aOf w) (bOf w) (cOf w))
  | 4 =>
    if !allZero 0 [aOf w, cOf w] then .error .reserved
    else
      match fieldOfIndex (idxOf w) with
      | none => .error .badField
      | some f => if codeOk f (bOf w) then .ok (.setField f (bOf w)) else .error .badField
  | 5 =>
    if !allZero (idxOf w) [cOf w] then .error .reserved
    else if !validAddr (aOf w) then .error .badAddr
    else if !rangeOk (aOf w) (bOf w) then .error .badCount
    else .ok (.burstRead (aOf w) (bOf w))
  | 6 =>
    if !allZero (idxOf w) [aOf w, bOf w, cOf w] then .error .reserved
    else .ok .readAxes
  | _ => .error .illegalOpc

/-- What the decoder reads from an instruction of the opcode table, whose rows are one 32-bit word
(30_encoding.md R75): the word is written to CMD whole, so its bits are the word's own. -/
def decodeTableWord (nbits w : Nat) : Option Instr :=
  match decode (BitVec.ofNat 32 (w % 2 ^ nbits)) with
  | .ok i => some i
  | .error _ => none

/-- The command word with the given fields (30_encoding.md R75). -/
def packWord (c b a : Byte) (idx opc : BitVec 4) : Word := c ++ b ++ a ++ idx ++ opc

/-- The command word of an instruction (30_encoding.md R77, R87). -/
def encode : Instr → Word
  | .readReg a => packWord 0 0 a 0 0x1
  | .writeReg a b => packWord 0 b a 0 0x2
  | .rmw a clear set => packWord set clear a 0 0x3
  | .setField f code => packWord 0 code 0 f.index 0x4
  | .burstRead a n => packWord 0 n a 0 0x5
  | .readAxes => packWord 0 0 0 0 0x6

end Sys2Proof
end

