-- ==== Sys2Proof/WellFormed.lean ====
section
/-! DEFINITION. Which instructions are well formed: the operand constraints the commands state
(41_register_access.md R120, R125; 42_rmw.md R143, R146; 43_burst.md R162, R166). -/

namespace Sys2Proof

/-- The operand constraints of an instruction, by the checks of 30_encoding.md R81 to R83. -/
def Instr.wf : Instr → Bool
  | .readReg a => validAddr a
  | .writeReg a _ => validAddr a
  | .rmw a _ _ => validAddr a
  | .setField f code => codeOk f code
  | .burstRead a n => rangeOk a n
  | .readAxes => true

end Sys2Proof
end

