-- ==== Sys2Proof/Machine/State.lean ====
section
/-! DEFINITION. The engine's state record (10_state.md R20 to R31), the sequencer position as plain
data (R24), the events of the trace (R31), the inputs of the outside world (R40), the reasons a step
can stop, and the state after reset (R43). -/

namespace Sys2Proof.Machine

/-- The sequencer mode (10_state.md R21). -/
inductive Fsm where
  | init
  | idle
  | run
  | failed
deriving DecidableEq, Repr

/-- A level the engine asks the pin port to drive (00_scope.md R16). Active (selected) is LOW. -/
inductive Level where
  | low
  | high
deriving DecidableEq, Repr

/-- What the engine knows of the select line (10_state.md R22). -/
inductive CsLevel where
  | low
  | high
  | unknown
deriving DecidableEq, Repr

/-- An operation error code (10_state.md R25, 60_exceptions.md R180). -/
inductive ErrCode where
  | none
  | transport
  | pin
deriving DecidableEq, Repr

/-- The pin port's response (00_scope.md R16). -/
inductive PinResp where
  | ok
  | err
deriving DecidableEq, Repr

/-- The transport port's response (00_scope.md R16). -/
inductive XferResp where
  | ok (data : Byte)
  | err
deriving DecidableEq, Repr

/-- One external interaction with its response (10_state.md R31). -/
inductive Event where
  | pin (level : Level) (r : PinResp)
  | xfer (out : Byte) (r : XferResp)
deriving DecidableEq, Repr

/-- A request the engine makes of a port (00_scope.md R16, 10_state.md R40). -/
inductive Request where
  | pinDrive (level : Level)
  | xfer (out : Byte)
deriving DecidableEq, Repr

/-- How the port whose request is outstanding answers: success, with the byte an `Xfer` returns (the
pin port returns none, so its byte is not looked at), or failure (00_scope.md R16; log 12). -/
inductive Answer where
  | ok (data : Byte)
  | err
deriving DecidableEq, Repr

/-- One act of the world outside the engine (10_state.md R40; log 2). -/
inductive Input where
  /-- The host asserts reset (70_reset_and_hazards.md R210). -/
  | reset
  /-- `MemRead(off, width)` (00_scope.md R17). -/
  | hostRead (off width : Nat)
  /-- `MemWrite(off, width, v)` (00_scope.md R17). -/
  | hostWrite (off width : Nat) (v : Word)
  /-- The port the engine waits on answers (40_primitives.md R100). -/
  | answer (a : Answer)
  /-- The response to a request that reset abandoned comes after all (70_reset_and_hazards.md R213). -/
  | lateAnswer (a : Answer)
deriving DecidableEq, Repr

/-- What one frame of a command is for (41_register_access.md, 42_rmw.md, 43_burst.md). -/
inductive FrameOp where
  /-- The frame of READ_REG at `a` (41_register_access.md R120). -/
  | readReg (a : Byte)
  /-- The frame of WRITE_REG: `b` to `a` (41_register_access.md R125). -/
  | writeReg (a b : Byte)
  /-- The read phase of `rmw_core` (42_rmw.md R143). -/
  | rmwRead (a clear set : Byte)
  /-- The write phase of `rmw_core`: `new` to `a` (42_rmw.md R143). -/
  | rmwWrite (a : Byte)
  /-- The data frame of `burst_core` (43_burst.md R162). -/
  | burstData (a n : Byte)
deriving DecidableEq, Repr

/-- The next interaction's place in its frame (40_primitives.md R107). -/
inductive FramePos where
  | select
  | exchange
  | deselect
deriving DecidableEq, Repr

/-- The frame in progress (40_primitives.md R107). -/
structure Frame where
  /-- Where the next interaction stands. -/
  pos : FramePos
  /-- The bytes of `out` still to be sent. -/
  out : List Byte
  /-- How many reads are still to be made. -/
  nread : Nat
  /-- The bytes read so far, `rx`. -/
  rx : List Byte
  /-- No `note` was made since the frame began. -/
  ok : Bool
deriving DecidableEq, Repr

/-- What a command does with its results before `complete()` (42_rmw.md R143, 43_burst.md R166). -/
inductive Finish where
  /-- Nothing more: READ_REG, WRITE_REG, BURST_READ. -/
  | plain
  /-- `RDATA[0] <- cur; RDATA[1] <- new`: RMW, SET_FIELD. -/
  | rmwResult
  /-- The axis reassembly of READ_AXES. -/
  | axes
deriving DecidableEq, Repr

/-- The frames a command has yet to begin, in order (40_primitives.md R114): a failed frame drops the
rest of `todo`, and never `cleanup`, the frames that run on every path (43_burst.md R163). -/
structure Script where
  todo : List FrameOp
  cleanup : List FrameOp
  finish : Finish
deriving DecidableEq, Repr

/-- A running command's position: the frame in progress, and what comes after it. -/
structure RunSeq where
  op : FrameOp
  frame : Frame
  rest : Script
deriving DecidableEq, Repr

/-- `seq`, the engine's program counter (10_state.md R24): cleared, the INIT sequence of one
interaction (70_reset_and_hazards.md R211), or a running command's continuation as plain data. -/
inductive Seq where
  | none
  | init
  | run (q : RunSeq)
deriving DecidableEq, Repr

/-- The engine's state (10_state.md R20), with the model's own fields `cfg`, `inputs`, `hostRead` and
`draws` after it (INVENTORY.md, State). -/
structure State where
  /-- Sequencer mode (R21). -/
  fsm : Fsm
  /-- The engine's knowledge of the select line (R22). -/
  cs : CsLevel
  /-- The last accepted command word (R23). -/
  cmd : Word
  /-- The next interaction, and the outstanding request with it (R24). -/
  seq : Seq
  /-- The error being reported (R25). -/
  err : ErrCode
  /-- The error it displaced (R25). -/
  prev : ErrCode
  /-- The byte a read-modify-write read (R26). -/
  cur : Byte
  /-- The byte a read-modify-write computed (R26). -/
  new : Byte
  /-- `RDATA[0..31]` (R27). -/
  rdata : Vector Byte 32
  /-- X sample, two's complement (R28). -/
  axisX : Half
  /-- Y sample, two's complement (R28). -/
  axisY : Half
  /-- Z sample, two's complement (R28). -/
  axisZ : Half
  /-- How many RDATA bytes the last accepted command returns (R29). -/
  rcount : BitVec 6
  /-- The last accepted command has completed (R30). -/
  done : Bool
  /-- It completed with `err = NONE` (R30). -/
  valid : Bool
  /-- The last READ_AXES completed with `err = NONE` (R30). -/
  axisValid : Bool
  /-- The last CMD write was refused (R30). -/
  reject : Bool
  /-- Why (R30). -/
  rejReason : RejReason
  /-- The initial drive failed (R30). -/
  initFail : Bool
  /-- Every external interaction so far, oldest first (R31). -/
  trace : List Event
  /-- MODEL. The configuration argument (R41; log 1). No step changes it. -/
  cfg : Config
  /-- MODEL. What the outside world does next, one input a step (R40; log 2). -/
  inputs : List Input
  /-- MODEL. The data the last `MemRead` answered with (R40; log 8). -/
  hostRead : Option Word
  /-- MODEL. The number of the next draw of free values (93_implementation_defined.md U1; log 6). -/
  draws : Nat
deriving DecidableEq, Repr

/-- The engine has no fault: it has no trap, an operation error is recorded in `err` and the command
completes (60_exceptions.md R180, R188), so nothing raises one. -/
inductive Fault where
deriving DecidableEq, Repr

/-- Why the model gives a step no meaning. -/
inductive Refusal where
  /-- Raised by `exec` for an instruction that has no meaning yet. Safe: no claim follows from it. No
  arm of this model raises it. -/
  | notModelled (mnemonic : String)
  /-- Raised by `step` under a configuration that breaks 00_scope.md R8 to R11 or 42_rmw.md R141: "A
  model refuses a configuration that fails, giving it no run" (70_reset_and_hazards.md R215). Safe. -/
  | badConfig
  /-- Raised by `step` for a host access of another width than 4, at a misaligned offset, or outside
  the window: "A model refuses it: it has no step" (20_memory.md R57). Safe. -/
  | hostAccessOutsideContract
deriving DecidableEq, Repr

/-- The machine right after reset, for a given configuration (10_state.md R43). `cur`, `new`, RDATA
and the axis registers have no reset value in the spec: DESIGN CHOICE 0 (log 4). -/
def State.resetOf (cfg : Config) : State :=
  { fsm := .init, cs := .unknown, cmd := 0, seq := .init, err := .none, prev := .none, cur := 0,
    new := 0, rdata := Vector.replicate 32 0, axisX := 0, axisY := 0, axisZ := 0, rcount := 0,
    done := false, valid := false, axisValid := false, reject := false, rejReason := .none,
    initFail := false, trace := [], cfg := cfg, inputs := [], hostRead := none, draws := 0 }

/-- The machine right after reset, under `TEST_CFG` (00_scope.md R13; log 1), with an outside world
that does nothing yet (log 2, log 3). -/
def State.reset : State := State.resetOf Config.testCfg

end Sys2Proof.Machine
end

