-- ==== Sys2Proof/Machine/Operands.lean ====
section
/-! DEFINITION. What the commands compute: wire headers (30_encoding.md R70 to R74), the field table
and its checks (42_rmw.md R140, R141), the modify arithmetic (R144), the frames each command is made
of (42_rmw.md R143, 43_burst.md R162), the axis reassembly (43_burst.md R166), and the writes to
RDATA (10_state.md R27). -/

namespace Sys2Proof.Machine

/-- `DUMMY_BYTE` (00_scope.md R12): the byte sent while reading. -/
def dummyByte : Byte := 0x00

/-- `AI_MASK` (00_scope.md R7): bit 2, the auto-increment flag. -/
def aiMask : Byte := 0x04

/-- `AXES_COUNT` (00_scope.md R7). -/
def axesCount : Byte := 6

/-- The read header of an address: `a | READ_BIT` (30_encoding.md R71). -/
def readHeader (a : Byte) : Byte := a ||| 0x80

/-- The write header of an address: the address itself (30_encoding.md R72). -/
def writeHeader (a : Byte) : Byte := a

/-- A bitfield descriptor (42_rmw.md R140). -/
structure Descriptor where
  reg : Byte
  mask : Byte
  shift : Nat
  ncodes : Nat
deriving DecidableEq, Repr

/-- The field table `FIELD` (42_rmw.md R140). -/
def descriptor (cfg : Config) : Field → Descriptor
  | .mode => { reg := cfg.cfgRegA, mask := 0x0C, shift := 2, ncodes := Field.ncodes .mode }
  | .lpMode => { reg := cfg.cfgRegA, mask := 0x03, shift := 0, ncodes := Field.ncodes .lpMode }
  | .odr => { reg := cfg.cfgRegA, mask := 0xF0, shift := 4, ncodes := Field.ncodes .odr }
  | .fs => { reg := cfg.cfgRegB, mask := 0x30, shift := 4, ncodes := Field.ncodes .fs }
  | .lowNoise => { reg := cfg.cfgRegB, mask := 0x04, shift := 2, ncodes := Field.ncodes .lowNoise }

/-- The five fields, in index order (42_rmw.md R140). -/
def allFields : List Field := [.mode, .lpMode, .odr, .fs, .lowNoise]

/-- Check (a) of 42_rmw.md R141. -/
def fieldRegOk (cfg : Config) (d : Descriptor) : Bool :=
  validAddr d.reg && decide (d.reg ≠ cfg.aiReg)

/-- Check (b) of 42_rmw.md R141, for one pair of fields. -/
def fieldsDisjoint (d e : Descriptor) : Bool :=
  decide (d.reg ≠ e.reg) || decide (d.mask &&& e.mask = 0)

/-- Check (c) of 42_rmw.md R141: the mask, shifted down, is a number of the form `2^k - 1` with
`k ≥ 1`, and shifted back up it is the mask. -/
def fieldMaskContiguous (d : Descriptor) : Bool :=
  let m := d.mask >>> d.shift
  decide (m ≠ 0) && decide (m &&& (m + 1) = 0) && decide (m <<< d.shift = d.mask)

/-- Check (d) of 42_rmw.md R141: the largest code fits the mask. -/
def fieldCodesFit (d : Descriptor) : Bool :=
  decide ((BitVec.ofNat 8 (d.ncodes - 1) <<< d.shift) &&& ~~~d.mask = 0)

/-- The field table is well formed (42_rmw.md R141). -/
def fieldTableOk (cfg : Config) : Bool :=
  allFields.all fun f =>
    fieldRegOk cfg (descriptor cfg f) && fieldMaskContiguous (descriptor cfg f) &&
      fieldCodesFit (descriptor cfg f) &&
      allFields.all fun g =>
        decide (f = g) || fieldsDisjoint (descriptor cfg f) (descriptor cfg g)

/-- The constraints on the OPEN parameters (00_scope.md R8 to R11). -/
def paramsOk (cfg : Config) : Bool :=
  validAddr cfg.aiReg && validAddr cfg.idAddr &&
    ((List.range axesCount.toNat).all fun i => validAddrNat (cfg.xlAddr.toNat + i)) &&
    validAddr cfg.cfgRegA && validAddr cfg.cfgRegB &&
    decide (cfg.cfgRegA ≠ cfg.cfgRegB) && decide (cfg.cfgRegA ≠ cfg.aiReg) &&
    decide (cfg.cfgRegB ≠ cfg.aiReg)

/-- A configuration the engine's rules hold for (70_reset_and_hazards.md R215). -/
def configOk (cfg : Config) : Bool := paramsOk cfg && fieldTableOk cfg

/-- The modify arithmetic: `(cur & ~clear) | set` (42_rmw.md R144). -/
def modifyByte (cur clear set : Byte) : Byte := (cur &&& ~~~clear) ||| set

/-- The set bits of SET_FIELD: `(code << shift) & mask` (42_rmw.md R147). -/
def fieldSetBits (d : Descriptor) (code : Byte) : Byte := (code <<< d.shift) &&& d.mask

/-- One axis sample from its low and high byte, little-endian (43_burst.md R166, R167). -/
def axisSample (lo hi : Byte) : Half := lo.setWidth 16 ||| (hi.setWidth 16 <<< 8)

/-- `RDATA[i] <- rx[i]` for every `i` of the list; the other entries keep their values
(43_burst.md R162, 10_state.md R27). -/
def storeBytes (rx : List Byte) (v : Vector Byte 32) : Vector Byte 32 :=
  Vector.ofFn fun i => rx.getD i v[i]

/-- The bytes a frame sends before it reads, its header first (30_encoding.md R73). `new` is the
working register the write phase of a read-modify-write sends. -/
def frameOut (new : Byte) : FrameOp → List Byte
  | .readReg a => [readHeader a]
  | .writeReg a b => [writeHeader a, b]
  | .rmwRead a _ _ => [readHeader a]
  | .rmwWrite a => [writeHeader a, new]
  | .burstData a _ => [readHeader a]

/-- How many reads a frame makes (30_encoding.md R73). -/
def frameReads : FrameOp → Nat
  | .readReg _ => 1
  | .writeReg _ _ => 0
  | .rmwRead _ _ _ => 1
  | .rmwWrite _ => 0
  | .burstData _ n => n.toNat

/-- A frame about to be begun: its first interaction is the select (40_primitives.md R107). -/
def startFrame (new : Byte) (op : FrameOp) : Frame :=
  { pos := .select, out := frameOut new op, nread := frameReads op, rx := [], ok := true }

/-- The two frames of `rmw_core(a, clear, set)` (42_rmw.md R143). -/
def rmwCore (a clear set : Byte) : List FrameOp := [.rmwRead a clear set, .rmwWrite a]

/-- The frames of READ_REG (41_register_access.md R120). -/
def readRegScript (a : Byte) : Script := { todo := [.readReg a], cleanup := [], finish := .plain }

/-- The frames of WRITE_REG (41_register_access.md R125). -/
def writeRegScript (a b : Byte) : Script :=
  { todo := [.writeReg a b], cleanup := [], finish := .plain }

/-- The frames of RMW and of SET_FIELD (42_rmw.md R143, R146). -/
def rmwScript (a clear set : Byte) : Script :=
  { todo := rmwCore a clear set, cleanup := [], finish := .rmwResult }

/-- The frames of `burst_core(a, n)`: set the flag, read, and on every path clear the flag
(43_burst.md R162, R163). -/
def burstScript (aiReg a n : Byte) (finish : Finish) : Script :=
  { todo := rmwCore aiReg 0x00 aiMask ++ [.burstData a n],
    cleanup := rmwCore aiReg aiMask 0x00, finish := finish }

end Sys2Proof.Machine
end

