-- ==== Sys2Proof/Machine/Flags.lean ====
section
/-! DEFINITION. The codes of the status fields (10_state.md R25, R34; 60_exceptions.md R180, R185),
BUSY, the error accumulator `note` (40_primitives.md R106), and the STATUS word (10_state.md R34). -/

namespace Sys2Proof.Machine

/-- The 2-bit code of `err` and `prev` (60_exceptions.md R180). -/
def ErrCode.code : ErrCode → BitVec 2
  | .none => 0b00
  | .transport => 0b01
  | .pin => 0b10

/-- The 2-bit code of STATUS.CS (10_state.md R34). -/
def CsLevel.code : CsLevel → BitVec 2
  | .low => 0b00
  | .high => 0b01
  | .unknown => 0b10

/-- The 3-bit code of STATUS.REJ_REASON (60_exceptions.md R185). -/
def rejCode : RejReason → BitVec 3
  | .none => 0
  | .illegalOpc => 1
  | .reserved => 2
  | .badAddr => 3
  | .badCount => 4
  | .badField => 5
  | .busy => 6
  | .initFailed => 7

/-- BUSY is `fsm ∈ {INIT, RUN}` (10_state.md R30). -/
def busy (s : State) : Bool := decide (s.fsm = .init) || decide (s.fsm = .run)

/-- One bit of a word. -/
def statusBit (b : Bool) : BitVec 1 := BitVec.ofBool b

/-- STATUS (10_state.md R34), from bit 31 down to bit 0. -/
def statusWord (s : State) : Word :=
  (0 : BitVec 10) ++ s.rcount ++ (0 : BitVec 1) ++ statusBit s.axisValid ++ s.cs.code ++
    statusBit s.initFail ++ rejCode s.rejReason ++ statusBit s.reject ++ statusBit s.valid ++ s.prev.code ++
    s.err.code ++ statusBit s.done ++ statusBit (busy s)

/-- `note(kind)`: the latest failure is reported and the one it displaces is kept in `prev`
(40_primitives.md R106). -/
def note (kind : ErrCode) (s : State) : State :=
  { s with prev := if s.err = .none then s.prev else s.err, err := kind }

/-- Why the engine's mode turns a CMD write away: FAILED first, then INIT and RUN
(60_exceptions.md R184). -/
def stateRefusal (s : State) : Option RejReason :=
  match s.fsm with
  | .failed => some .initFailed
  | .init => some .busy
  | .run => some .busy
  | .idle => none

end Sys2Proof.Machine
end

