-- ==== Sys2Proof/Machine/Ops.lean ====
section
/-! DEFINITION. The named operations over the engine's state: the interactions of 40_primitives.md
R101 to R104, refusal and acceptance of a command (60_exceptions.md R184, R185; 40_primitives.md
R113), the walk through a command's frames (R107 to R110, R114), completion (R115), INIT
(70_reset_and_hazards.md R212) and reset (R210). There is no exception to take and none to return
from (60_exceptions.md R188, R189): an operation error is `note`, a turned-away command is `refuse`. -/

namespace Sys2Proof.Machine

/-- The level's place in `cs` after a successful drive (40_primitives.md R101). -/
def Level.toCs : Level → CsLevel
  | .low => .low
  | .high => .high

/-- The pin port's reading of an answer (00_scope.md R16). -/
def Answer.toPin : Answer → PinResp
  | .ok _ => .ok
  | .err => .err

/-- The transport port's reading of an answer (00_scope.md R16). -/
def Answer.toXfer : Answer → XferResp
  | .ok data => .ok data
  | .err => .err

/-- `PinDrive(level)` answered by `r` (40_primitives.md R101). -/
def pinDrive (level : Level) (r : PinResp) (s : State) : State :=
  { s with
    trace := s.trace ++ [.pin level r]
    cs := match r with
      | .ok => level.toCs
      | .err => .unknown }

/-- `Xfer(out)` answered by `r`: the trace grows (40_primitives.md R103, R104). -/
def xfer (out : Byte) (r : XferResp) (s : State) : State :=
  { s with trace := s.trace ++ [.xfer out r] }

/-- `raise Refuse(reason)`: REJECT and REJ_REASON are written and nothing else (60_exceptions.md
R185). -/
def refuse (reason : RejReason) (s : State) : State :=
  { s with reject := true, rejReason := reason }

/-- RDATA and, after a failed READ_AXES, the axis registers take free values: what a command returned
is unspecified when it completed with `valid = 0` (10_state.md R27, R28; log 6). -/
def scramble (finish : Finish) (s : State) : State :=
  { s with
    rdata := storeBytes ((List.range s.rcount.toNat).map (Config.freeByte s.draws)) s.rdata
    axisX := if finish = .axes then Config.freeHalf s.draws 0 else s.axisX
    axisY := if finish = .axes then Config.freeHalf s.draws 1 else s.axisY
    axisZ := if finish = .axes then Config.freeHalf s.draws 2 else s.axisZ
    draws := s.draws + 1 }

/-- What a command does with its results after its last frame (42_rmw.md R143, R146; 43_burst.md
R166). -/
def applyFinish (finish : Finish) (s : State) : State :=
  match finish with
  | .plain => s
  | .rmwResult => { s with rdata := storeBytes [s.cur, s.new] s.rdata }
  | .axes =>
    if s.err = .none then
      { s with
        axisX := axisSample s.rdata[0] s.rdata[1]
        axisY := axisSample s.rdata[2] s.rdata[3]
        axisZ := axisSample s.rdata[4] s.rdata[5]
        axisValid := true }
    else s

/-- The results are kept when no interaction failed, and are unspecified otherwise (60_exceptions.md
R183, 10_state.md R27). -/
def settleResults (finish : Finish) (s : State) : State :=
  if s.err = .none then s else scramble finish s

/-- `complete()` (40_primitives.md R115), after the command's finish. -/
def complete (finish : Finish) (s : State) : State :=
  { settleResults finish (applyFinish finish s) with
    valid := decide (s.err = .none)
    fsm := .idle
    done := true
    seq := .none }

/-- The sequencer moves to a frame's first interaction (40_primitives.md R107). -/
def enterFrame (op : FrameOp) (rest : Script) (s : State) : State :=
  { s with seq := .run { op := op, frame := startFrame s.new op, rest := rest } }

/-- The sequencer moves to the next frame that runs: the rest of the phase, else the frames that run
on every path, else completion (40_primitives.md R114, R115). -/
def enterNext (script : Script) (s : State) : State :=
  match script.todo, script.cleanup with
  | op :: todo, cleanup => enterFrame op { script with todo := todo, cleanup := cleanup } s
  | [], op :: cleanup => enterFrame op { script with todo := cleanup, cleanup := [] } s
  | [], [] => complete script.finish s

/-- `begin(w, opc)` (40_primitives.md R113), but for `axis_valid`, which READ_AXES clears: `n` is
what the opcode writes to `rcount`. -/
def begin (w : Word) (n : BitVec 6) (script : Script) (s : State) : State :=
  enterNext script
    { s with
      cmd := w, fsm := .run, err := .none, prev := .none, done := false, valid := false,
      reject := false, rejReason := .none, rcount := n }

/-- `cmd_write` on a word that decodes (60_exceptions.md R184): the mode is checked, then the
command is accepted with `begin`. -/
def accept (w : Word) (n : BitVec 6) (script : Script) (s : State) : State :=
  match stateRefusal s with
  | some reason => refuse reason s
  | none => begin w n script s

/-- `cmd_write` on a word that does not decode, for `reason` (60_exceptions.md R184): the mode's own
refusal comes first. -/
def refuseWord (reason : RejReason) (s : State) : State :=
  match stateRefusal s with
  | some r => refuse r s
  | none => refuse reason s

/-- What a frame leaves when it has deselected: READ_REG and the read phase of a read-modify-write
keep the byte of a successful frame; the burst keeps every byte that was read (41_register_access.md
R120, 42_rmw.md R143, 43_burst.md R162). -/
def applyFrame (op : FrameOp) (ok : Bool) (rx : List Byte) (s : State) : State :=
  match op with
  | .readReg _ => if ok then { s with rdata := storeBytes rx s.rdata } else s
  | .writeReg _ _ => s
  | .rmwRead _ clear set =>
    if ok then { s with cur := rx.headD s.cur, new := modifyByte (rx.headD s.cur) clear set }
    else s
  | .rmwWrite _ => s
  | .burstData _ _ => { s with rdata := storeBytes rx s.rdata }

/-- After a failed frame the rest of its phase is skipped; the frames that run on every path are not
(40_primitives.md R114, 42_rmw.md R151, 43_burst.md R163). -/
def afterFrame (ok : Bool) (rest : Script) : Script :=
  if ok then rest else { rest with todo := [] }

/-- The end of a frame, once its deselect has answered. -/
def endFrame (q : RunSeq) (s : State) : State :=
  enterNext (afterFrame q.frame.ok q.rest) (applyFrame q.op q.frame.ok q.frame.rx s)

/-- The frame moves on to its next exchange, or to its deselect when none is left
(40_primitives.md R107). -/
def Frame.advance (f : Frame) : Frame :=
  if f.out = [] ∧ f.nread = 0 then { f with pos := .deselect } else { f with pos := .exchange }

/-- The frame fails: its remaining exchanges are skipped and it deselects (40_primitives.md R108,
R109). -/
def Frame.abort (f : Frame) : Frame := { f with pos := .deselect, ok := false }

/-- The byte of the frame's next exchange: the next byte of `out`, or `DUMMY_BYTE` when only reads
are left (30_encoding.md R73, 40_primitives.md R104). -/
def Frame.nextByte (f : Frame) : Byte := f.out.headD dummyByte

/-- The frame after a successful exchange: the response to a sent byte is discarded, the response to
a read is kept (30_encoding.md R74). -/
def Frame.exchanged (f : Frame) (data : Byte) : Frame :=
  match f.out with
  | _ :: out => Frame.advance { f with out := out }
  | [] => Frame.advance { f with nread := f.nread - 1, rx := f.rx ++ [data] }

/-- The sequencer's position becomes `f` in the same frame. -/
def moveTo (q : RunSeq) (f : Frame) (s : State) : State :=
  { s with seq := .run { q with frame := f } }

/-- `select()` answered (40_primitives.md R102, R108). -/
def selectAnswered (q : RunSeq) (r : PinResp) (s : State) : State :=
  match r with
  | .ok => moveTo q q.frame.advance (pinDrive .low .ok s)
  | .err => moveTo q q.frame.abort (note .pin (pinDrive .low .err s))

/-- An exchange of the frame answered (40_primitives.md R103, R104, R109). -/
def exchangeAnswered (q : RunSeq) (r : XferResp) (s : State) : State :=
  match r with
  | .ok data => moveTo q (q.frame.exchanged data) (xfer q.frame.nextByte (.ok data) s)
  | .err => moveTo q q.frame.abort (note .transport (xfer q.frame.nextByte .err s))

/-- `deselect()` answered: it runs on every path, and its failure fails the frame (40_primitives.md
R102, R110). -/
def deselectAnswered (q : RunSeq) (r : PinResp) (s : State) : State :=
  match r with
  | .ok => endFrame q (pinDrive .high .ok s)
  | .err => endFrame { q with frame := q.frame.abort } (note .pin (pinDrive .high .err s))

/-- The initial drive answered (70_reset_and_hazards.md R212). -/
def initAnswered (r : PinResp) (s : State) : State :=
  match r with
  | .ok => { pinDrive .high .ok s with fsm := .idle, seq := .none }
  | .err =>
    { note .pin (pinDrive .high .err s) with initFail := true, fsm := .failed, seq := .none }

/-- The request at `seq` (10_state.md R24, R40); none when the sequencer is cleared. -/
def request (s : State) : Option Request :=
  match s.seq with
  | .none => none
  | .init => some (.pinDrive .high)
  | .run q =>
    match q.frame.pos with
    | .select => some (.pinDrive .low)
    | .exchange => some (.xfer q.frame.nextByte)
    | .deselect => some (.pinDrive .high)

/-- One engine step: the request at `seq` is answered (40_primitives.md R100). With no request
outstanding the answer is ignored (log 12). -/
def answered (a : Answer) (s : State) : State :=
  match s.seq with
  | .none => s
  | .init => initAnswered a.toPin s
  | .run q =>
    match q.frame.pos with
    | .select => selectAnswered q a.toPin s
    | .exchange => exchangeAnswered q a.toXfer s
    | .deselect => deselectAnswered q a.toPin s

/-- The reset input (70_reset_and_hazards.md R210, R213): every element at its reset value
(10_state.md R43), those the spec leaves unspecified at free values (log 5). The configuration and
what the outside world does next stay. -/
def assertReset (s : State) : State :=
  { State.resetOf s.cfg with
    cur := Config.freeByte s.draws 32
    new := Config.freeByte s.draws 33
    rdata := Vector.ofFn fun i => Config.freeByte s.draws i
    axisX := Config.freeHalf s.draws 0
    axisY := Config.freeHalf s.draws 1
    axisZ := Config.freeHalf s.draws 2
    inputs := s.inputs
    draws := s.draws + 1 }

/-- The level of the select line, where the engine knows it; none while `cs = UNKNOWN`, when it may
be either (10_state.md R22, R42; log 15). -/
def lineLevel (s : State) : Option Level :=
  match s.cs with
  | .low => some .low
  | .high => some .high
  | .unknown => none

end Sys2Proof.Machine
end

