-- ==== Sys2Proof/Machine/Burst.lean ====
section
/-! DEFINITION. BURST_READ and READ_AXES (43_burst.md). -/

namespace Sys2Proof.Machine

/-- BURST_READ (43_burst.md R162); `rcount` is the count (10_state.md R29). -/
def execBurstRead (a n : Byte) (s : State) : Host.Outcome State Fault Refusal :=
  .next (accept (encode (.burstRead a n)) (n.setWidth 6) (burstScript s.cfg.aiReg a n .plain) s)

/-- `if opc = READ_AXES: axis_valid <- 0`, at acceptance only (40_primitives.md R113). -/
def clearAxisValid (s : State) : State :=
  { s with axisValid := if stateRefusal s = none then false else s.axisValid }

/-- READ_AXES (43_burst.md R166). -/
def execReadAxes (s : State) : Host.Outcome State Fault Refusal :=
  .next (accept (encode .readAxes) 6 (burstScript s.cfg.aiReg s.cfg.xlAddr axesCount .axes)
    (clearAxisValid s))

end Sys2Proof.Machine
end

