-- ==== Sys2Proof/Machine/ReadModifyWrite.lean ====
section
/-! DEFINITION. RMW and SET_FIELD (42_rmw.md). -/

namespace Sys2Proof.Machine

/-- RMW (42_rmw.md R143). -/
def execRmw (a clear set : Byte) (s : State) : Host.Outcome State Fault Refusal :=
  .next (accept (encode (.rmw a clear set)) 2 (rmwScript a clear set) s)

/-- SET_FIELD: a read-modify-write of the field's register with the field's masks (42_rmw.md R146,
R147). -/
def execSetField (f : Field) (code : Byte) (s : State) : Host.Outcome State Fault Refusal :=
  let d := descriptor s.cfg f
  .next (accept (encode (.setField f code)) 2 (rmwScript d.reg d.mask (fieldSetBits d code)) s)

end Sys2Proof.Machine
end

