-- ==== Sys2Proof/Machine/SingleRegister.lean ====
section
/-! DEFINITION. READ_REG and WRITE_REG (41_register_access.md). A meaning is the host step that
presents the command: the mode is checked, the command accepted and its sequence of interactions
loaded into `seq` (60_exceptions.md R184); each interaction is one later step (40_primitives.md R100;
log 13). -/

namespace Sys2Proof.Machine

/-- READ_REG (41_register_access.md R120). -/
def execReadReg (a : Byte) (s : State) : Host.Outcome State Fault Refusal :=
  .next (accept (encode (.readReg a)) 1 (readRegScript a) s)

/-- WRITE_REG (41_register_access.md R125). -/
def execWriteReg (a b : Byte) (s : State) : Host.Outcome State Fault Refusal :=
  .next (accept (encode (.writeReg a b)) 0 (writeRegScript a b) s)

end Sys2Proof.Machine
end

