-- ==== Sys2Proof/Machine/Dispatch.lean ====
section
/-! DEFINITION. One arm per instruction. -/

namespace Sys2Proof.Machine

def exec (i : Instr) (s : State) : Host.Outcome State Fault Refusal :=
  match i with
  | .readReg a => Sys2Proof.Machine.execReadReg a s
  | .writeReg a b => Sys2Proof.Machine.execWriteReg a b s
  | .rmw a clear set => Sys2Proof.Machine.execRmw a clear set s
  | .setField f code => Sys2Proof.Machine.execSetField f code s
  | .burstRead a n => Sys2Proof.Machine.execBurstRead a n s
  | .readAxes => Sys2Proof.Machine.execReadAxes s

end Sys2Proof.Machine
end

