-- ==== Sys2Proof/Machine/HostPort.lean ====
section
/-! DEFINITION. The host register port (10_state.md R32 to R38, R40): the window, `MemRead`,
`MemWrite`, and the presentation of a command word (60_exceptions.md R184). -/

namespace Sys2Proof.Machine

/-- The access is inside the contract: 32 bits wide, aligned, inside the window of 0x40 bytes
(20_memory.md R57, 00_scope.md R12). `width` is in bytes. -/
def inContract (off width : Nat) : Bool :=
  decide (width = 4) && decide (off % 4 = 0) && decide (off < 0x40)

/-- The window offset a platform address names, when it is inside the window (20_memory.md R52). -/
def hostOffset (cfg : Config) (addr : Nat) : Option Nat :=
  if cfg.hostBase ≤ addr ∧ addr < cfg.hostBase + 0x40 then some (addr - cfg.hostBase) else none

/-- AXIS_XY: X in bits 15:0, Y in bits 31:16 (10_state.md R35). -/
def axisXyWord (x y : Half) : Word := y ++ x

/-- AXIS_Z: Z in bits 15:0, zeros above (10_state.md R35). -/
def axisZWord (z : Half) : Word := z.setWidth 32

/-- RDATAk: the lower RDATA index in the lower byte lane (10_state.md R37). -/
def rdataWord (b0 b1 b2 b3 : Byte) : Word := b3 ++ b2 ++ b1 ++ b0

/-- The content of the register at an offset of the window, as the state holds it (10_state.md R32 to
R38); reserved offsets read 0. -/
def registerAt (off : Nat) (s : State) : Word :=
  if off = 0x00 then s.cmd
  else if off = 0x04 then statusWord s
  else if off = 0x08 then axisXyWord s.axisX s.axisY
  else if off = 0x0C then axisZWord s.axisZ
  else if off = 0x10 then s.cfg.idExpected.setWidth 32
  else if off < 0x20 then 0
  else
    let k := off - 0x20
    rdataWord (s.rdata.getD k 0) (s.rdata.getD (k + 1) 0) (s.rdata.getD (k + 2) 0)
      (s.rdata.getD (k + 3) 0)

/-- The registers that hold results: AXIS_XY, AXIS_Z and RDATA0..7 (20_memory.md R63). -/
def isResult (off : Nat) : Bool :=
  decide (off = 0x08) || decide (off = 0x0C) || decide (0x20 ≤ off)

/-- What a result register reads as while BUSY: unspecified, so free values in the register's own
layout (20_memory.md R63; log 7). -/
def freeRegister (off n : Nat) : Word :=
  if off = 0x08 then axisXyWord (Config.freeHalf n 0) (Config.freeHalf n 1)
  else if off = 0x0C then axisZWord (Config.freeHalf n 0)
  else rdataWord (Config.freeByte n 0) (Config.freeByte n 1) (Config.freeByte n 2)
    (Config.freeByte n 3)

/-- The read meets an unspecified result: a result register, while BUSY (20_memory.md R63). -/
def readsFree (off : Nat) (s : State) : Bool := busy s && isResult off

/-- The data `MemRead(off, 4)` answers with (10_state.md R33 to R38, 20_memory.md R63). -/
def readData (off : Nat) (s : State) : Word :=
  if readsFree off s then freeRegister off s.draws else registerAt off s

/-- `MemRead(off, 4)`: the data goes to the host and no state of the engine changes (10_state.md R33,
R34; log 8). -/
def memRead (off : Nat) (s : State) : State :=
  { s with
    hostRead := some (readData off s)
    draws := if readsFree off s then s.draws + 1 else s.draws }

/-- `cmd_write(w)` (60_exceptions.md R184): a word that decodes is its instruction's meaning; one
that does not is refused. -/
def cmdWrite (w : Word) (s : State) : Host.Outcome State Fault Refusal :=
  match decode w with
  | .ok i => exec i s
  | .error reason => .next (refuseWord reason s)

/-- `MemWrite(off, 4, v)`: CMD presents a command; a write to any other register of the window is
ignored (10_state.md R33, R38). -/
def memWrite (off : Nat) (v : Word) (s : State) : Host.Outcome State Fault Refusal :=
  if off = 0x00 then cmdWrite v s else .next s

/-- One input takes effect (00_scope.md R16, R17; 40_primitives.md R100). -/
def perform (i : Input) (s : State) : Host.Outcome State Fault Refusal :=
  match i with
  | .reset => .next (assertReset s)
  | .hostRead off width =>
    if inContract off width then .next (memRead off s) else .refused .hostAccessOutsideContract
  | .hostWrite off width v =>
    if inContract off width then memWrite off v s else .refused .hostAccessOutsideContract
  | .answer a => .next (answered a s)
  | .lateAnswer _ => .next s

/-- The next input is taken and takes effect. With none, no agent acts and the state stays: a port
that never answers leaves the engine where it is for ever (40_primitives.md R117; log 2). -/
def takeInput (s : State) : Host.Outcome State Fault Refusal :=
  match s.inputs with
  | [] => .next s
  | i :: rest => perform i { s with inputs := rest }

/-- One step, under a configuration the rules hold for; another has no run (70_reset_and_hazards.md
R215). -/
def machineStep (s : State) : Host.Outcome State Fault Refusal :=
  if configOk s.cfg then takeInput s else .refused .badConfig

/-- The engine ready to accept a command: as it is when it is already IDLE, else with its sequencer
cleared and the line deselected, as after a successful INIT (70_reset_and_hazards.md R212; log 3). -/
def readyForCommand (s : State) : State :=
  if s.fsm = .idle then s else { s with fsm := .idle, seq := .none, cs := .high }

/-- The host's next act is to write the word to CMD (10_state.md R33; log 3). -/
def presentWord (s : State) (nbits w : Nat) : State :=
  { readyForCommand s with
    inputs := .hostWrite 0x00 4 (BitVec.ofNat 32 (w % 2 ^ nbits)) :: s.inputs }

end Sys2Proof.Machine
end

