-- ==== Sys2Proof/Machine/Step.lean ====
section
/-! DEFINITION. One step of the machine (40_primitives.md R100), and the placing of a command word
where the next step takes it (log 3). -/

namespace Sys2Proof.Machine

/-- One step: the next input of the outside world takes effect. -/
def step (s : State) : Host.Outcome State Fault Refusal := machineStep s

/-- The state whose next step presents the command word `w` to an engine ready for it (log 3). -/
def State.withFetchWord (s : State) (nbits w : Nat) : State := presentWord s nbits w

end Sys2Proof.Machine
end

