-- ==== Sys2Proof/Machine/Assembler.lean ====
section
/-! DEFINITION. The assembler syntax and the pseudo-commands (30_encoding.md R87, R88). A line is read
as a list of characters; the conventions R87 leaves open are log 19. -/

namespace Sys2Proof.Machine

/-- The pseudo-commands of 30_encoding.md R88. -/
inductive Pseudo where
  | readId
  | setMode (v : Byte)
  | setLpMode (v : Byte)
  | setOdr (v : Byte)
  | setFs (v : Byte)
  | setLowNoise (v : Byte)
  | setBits (a m : Byte)
  | clrBits (a m : Byte)
deriving DecidableEq, Repr

/-- The one command a pseudo-command expands to (30_encoding.md R88). -/
def expandPseudo (cfg : Config) : Pseudo → Instr
  | .readId => .readReg cfg.idAddr
  | .setMode v => .setField .mode v
  | .setLpMode v => .setField .lpMode v
  | .setOdr v => .setField .odr v
  | .setFs v => .setField .fs v
  | .setLowNoise v => .setField .lowNoise v
  | .setBits a m => .rmw a 0x00 m
  | .clrBits a m => .rmw a m 0x00

/-- The value of a hexadecimal digit, in either case. -/
def hexDigit (c : Char) : Option Nat :=
  let n := c.toNat
  if 48 ≤ n ∧ n ≤ 57 then some (n - 48)
  else if 97 ≤ n ∧ n ≤ 102 then some (n - 87)
  else if 65 ≤ n ∧ n ≤ 70 then some (n - 55)
  else none

/-- Digits of a base, most significant first, onto `acc`. -/
def digitsFrom (base : Nat) : List Char → Nat → Option Nat
  | [], acc => some acc
  | c :: rest, acc =>
    match hexDigit c with
    | some d => if d < base then digitsFrom base rest (acc * base + d) else none
    | none => none

/-- A number: `0x` and hexadecimal digits, or decimal digits (30_encoding.md R87). -/
def parseNumber : List Char → Option Nat
  | [] => none
  | '0' :: 'x' :: [] => none
  | '0' :: 'x' :: c :: rest => digitsFrom 16 (c :: rest) 0
  | c :: rest => digitsFrom 10 (c :: rest) 0

/-- An operand that fits an 8-bit field of the word (30_encoding.md R76). -/
def parseByte (cs : List Char) : Option Byte :=
  match parseNumber cs with
  | some n => if n < 256 then some (BitVec.ofNat 8 n) else none
  | none => none

/-- A field operand: its name, or its index 0..4 (30_encoding.md R87). -/
def parseField (cs : List Char) : Option Field :=
  if cs = "MODE".toList then some .mode
  else if cs = "LP_MODE".toList then some .lpMode
  else if cs = "ODR".toList then some .odr
  else if cs = "FS".toList then some .fs
  else if cs = "LOW_NOISE".toList then some .lowNoise
  else
    match parseNumber cs with
    | some n => if n < 16 then fieldOfIndex (BitVec.ofNat 4 n) else none
    | none => none

/-- A blank between the parts of a line. -/
def isBlank (c : Char) : Bool := decide (c = ' ') || decide (c = '\t')

/-- A list of characters without the blanks around it. -/
def trimBlanks (cs : List Char) : List Char :=
  ((cs.dropWhile isBlank).reverse.dropWhile isBlank).reverse

/-- The operands of a line, separated by commas. -/
def splitOperands (cs : List Char) : List (List Char) :=
  if trimBlanks cs = [] then [] else (cs.splitOn ',').map trimBlanks

/-- The command of a mnemonic and its operands; a pseudo-command gives the command it expands to
(30_encoding.md R87, R88). -/
def assembleParts (cfg : Config) (mnemonic : List Char) (ops : List (List Char)) : Option Instr :=
  if mnemonic = "READ_REG".toList then
    match ops with
    | [x] => (parseByte x).map .readReg
    | _ => none
  else if mnemonic = "WRITE_REG".toList then
    match ops with
    | [x, y] => (parseByte x).bind fun a => (parseByte y).map (.writeReg a)
    | _ => none
  else if mnemonic = "RMW".toList then
    match ops with
    | [x, y, z] =>
      (parseByte x).bind fun a => (parseByte y).bind fun c => (parseByte z).map (.rmw a c)
    | _ => none
  else if mnemonic = "SET_FIELD".toList then
    match ops with
    | [x, y] => (parseField x).bind fun f => (parseByte y).map (.setField f)
    | _ => none
  else if mnemonic = "BURST_READ".toList then
    match ops with
    | [x, y] => (parseByte x).bind fun a => (parseByte y).map (.burstRead a)
    | _ => none
  else if mnemonic = "READ_AXES".toList then
    match ops with
    | [] => some .readAxes
    | _ => none
  else
    (match ops with
    | [] => if mnemonic = "READ_ID".toList then some Pseudo.readId else none
    | [x] =>
      if mnemonic = "SET_MODE".toList then (parseByte x).map .setMode
      else if mnemonic = "SET_LP_MODE".toList then (parseByte x).map .setLpMode
      else if mnemonic = "SET_ODR".toList then (parseByte x).map .setOdr
      else if mnemonic = "SET_FS".toList then (parseByte x).map .setFs
      else if mnemonic = "SET_LOW_NOISE".toList then (parseByte x).map .setLowNoise
      else none
    | [x, y] =>
      if mnemonic = "SET_BITS".toList then
        (parseByte x).bind fun a => (parseByte y).map (.setBits a)
      else if mnemonic = "CLR_BITS".toList then
        (parseByte x).bind fun a => (parseByte y).map (.clrBits a)
      else none
    | _ => none).map (expandPseudo cfg)

/-- One line of assembly: the comment is dropped, then mnemonic and operands are read
(30_encoding.md R87). -/
def assembleLine (cfg : Config) (line : List Char) : Option Instr :=
  let code := trimBlanks (line.takeWhile fun c => decide (c ≠ ';'))
  let mnemonic := code.takeWhile fun c => !isBlank c
  assembleParts cfg mnemonic (splitOperands (code.drop mnemonic.length))

end Sys2Proof.Machine
end

