-- ==== Sys2Proof/Machine/Pseudocode.lean ====
section
/-! DEFINITION. The spec's pseudocode, transcribed as it is written: `frame` (40_primitives.md R107),
`rmw_core` (42_rmw.md R143), `burst_core` (43_burst.md R162) and the six commands, as programs that
run to their end on a list of port answers. It is a second account of what a command does, beside
the sequencer of Machine/Ops.lean, which makes one interaction a step; a statement says the two
agree. A program that runs out of answers gives none: the port never answered (40_primitives.md
R117). -/

namespace Sys2Proof.Machine

/-- The state and the answers still to come. -/
structure Run where
  st : State
  answers : List Answer
deriving DecidableEq, Repr

/-- `PinDrive(level)` (R101): whether it answered `PinOk`. -/
def Run.pinDrive (level : Level) (r : Run) : Option (Bool × Run) :=
  match r.answers with
  | [] => none
  | a :: rest => some (decide (a.toPin = .ok), ⟨Machine.pinDrive level a.toPin r.st, rest⟩)

/-- `select()` (R102). -/
def Run.select (r : Run) : Option (Bool × Run) :=
  match r.pinDrive .low with
  | none => none
  | some (true, r) => some (true, r)
  | some (false, r) => some (false, { r with st := note .pin r.st })

/-- `deselect()` (R102): whether the drive succeeded. -/
def Run.deselect (r : Run) : Option (Bool × Run) :=
  match r.pinDrive .high with
  | none => none
  | some (true, r) => some (true, r)
  | some (false, r) => some (false, { r with st := note .pin r.st })

/-- `Xfer(b)`: the byte returned, unless it answered `XferErr`, which is noted (R103, R104). -/
def Run.exchange (b : Byte) (r : Run) : Option (Option Byte × Run) :=
  match r.answers with
  | [] => none
  | .ok data :: rest => some (some data, ⟨xfer b (.ok data) r.st, rest⟩)
  | .err :: rest => some (none, ⟨note .transport (xfer b .err r.st), rest⟩)

/-- The loop `for b in out` of R107: whether all were sent. -/
def Run.sendAll : List Byte → Run → Option (Bool × Run)
  | [], r => some (true, r)
  | b :: out, r =>
    match r.exchange b with
    | none => none
    | some (none, r) => some (false, r)
    | some (some _, r) => Run.sendAll out r

/-- The loop over `nread` reads of R107: whether all were made, and `rx`. -/
def Run.readAll : Nat → Run → Option (Bool × List Byte × Run)
  | 0, r => some (true, [], r)
  | n + 1, r =>
    match r.exchange dummyByte with
    | none => none
    | some (none, r) => some (false, [], r)
    | some (some v, r) =>
      match Run.readAll n r with
      | none => none
      | some (ok, rx, r) => some (ok, v :: rx, r)

/-- The part of `frame` between select and deselect (R107). -/
def Run.transfer (out : List Byte) (nread : Nat) (r : Run) : Option (Bool × List Byte × Run) :=
  match Run.sendAll out r with
  | none => none
  | some (false, r) => some (false, [], r)
  | some (true, r) => Run.readAll nread r

/-- `frame(out, nread)` (R107): whether the frame succeeded, and `rx`. -/
def Run.frame (out : List Byte) (nread : Nat) (r : Run) : Option (Bool × List Byte × Run) :=
  match r.select with
  | none => none
  | some (false, r) =>
    match r.deselect with
    | none => none
    | some (_, r) => some (false, [], r)
  | some (true, r) =>
    match r.transfer out nread with
    | none => none
    | some (ok, rx, r) =>
      match r.deselect with
      | none => none
      | some (okD, r) => some (ok && okD, rx, r)

/-- `rmw_core(a, clear, set)` (42_rmw.md R143). -/
def Run.rmwCore (a clear set : Byte) (r : Run) : Option (Bool × Run) :=
  match r.frame [a ||| 0x80] 1 with
  | none => none
  | some (false, _, r) => some (false, r)
  | some (true, rx, r) =>
    let cur := rx.headD r.st.cur
    let new := (cur &&& ~~~clear) ||| set
    match Run.frame [a, new] 0 { r with st := { r.st with cur := cur, new := new } } with
    | none => none
    | some (ok, _, r) => some (ok, r)

/-- `burst_core(a, n)` (43_burst.md R162). -/
def Run.burstCore (a : Byte) (n : Nat) (r : Run) : Option Run :=
  match r.rmwCore r.st.cfg.aiReg 0x00 0x04 with
  | none => none
  | some (ok1, r) =>
    let data : Option Run :=
      if ok1 then
        match r.frame [a ||| 0x80] n with
        | none => none
        | some (_, rx, r) => some { r with st := { r.st with rdata := storeBytes rx r.st.rdata } }
      else some r
    match data with
    | none => none
    | some r =>
      match r.rmwCore r.st.cfg.aiReg 0x04 0x00 with
      | none => none
      | some (_, r) => some r

/-- The body of a command after `begin` and up to `complete()`, with the finish it completes with
(41_register_access.md R120, R125; 42_rmw.md R143, R146; 43_burst.md R162, R166). -/
def Run.body (i : Instr) (r : Run) : Option (Finish × Run) :=
  match i with
  | .readReg a =>
    match r.frame [a ||| 0x80] 1 with
    | none => none
    | some (ok, rx, r) =>
      some (.plain,
        if ok then { r with st := { r.st with rdata := storeBytes rx r.st.rdata } } else r)
  | .writeReg a b => (r.frame [a, b] 0).map fun x => (.plain, x.2.2)
  | .rmw a clear set => (r.rmwCore a clear set).map fun x => (.rmwResult, x.2)
  | .setField f code =>
    let d := descriptor r.st.cfg f
    (r.rmwCore d.reg d.mask ((code <<< d.shift) &&& d.mask)).map fun x => (.rmwResult, x.2)
  | .burstRead a n => (r.burstCore a n.toNat).map fun r => (.plain, r)
  | .readAxes => (r.burstCore r.st.cfg.xlAddr 6).map fun r => (.axes, r)

/-- `rcount` of an accepted command (40_primitives.md R113). -/
def resultCount : Instr → BitVec 6
  | .readReg _ => 1
  | .writeReg _ _ => 0
  | .rmw _ _ _ => 2
  | .setField _ _ => 2
  | .burstRead _ n => n.setWidth 6
  | .readAxes => 6

/-- The fields `begin` writes, but for `seq` (40_primitives.md R113). -/
def beginFields (i : Instr) (s : State) : State :=
  { s with
    cmd := encode i
    fsm := .run
    err := .none
    prev := .none
    done := false
    valid := false
    reject := false
    rejReason := .none
    rcount := resultCount i
    axisValid := if i = .readAxes then false else s.axisValid }

/-- A whole command from acceptance to completion, by the pseudocode, on the given answers: the state
after it, and the answers it did not use. -/
def runCommand (i : Instr) (s : State) (answers : List Answer) : Option Run :=
  match Run.body i ⟨beginFields i s, answers⟩ with
  | none => none
  | some (finish, r) => some { r with st := complete finish r.st }

end Sys2Proof.Machine
end

