-- ==== Sys2Proof/Safety.lean ====
section
/-! DEFINITION. What counts as a consistent state (10_state.md R44 and the rules that write each
field) and as a properly framed trace (40_primitives.md R111), in the terms the statements use. -/

namespace Sys2Proof.Machine

/-- `n` steps of the machine, stopping at the first refusal: `Host.Core.run`, with State's own
types. -/
def runSteps : Nat → State → Host.Outcome State Fault Refusal
  | 0, s => .next s
  | n + 1, s =>
    match step s with
    | .next t => runSteps n t
    | .fault r => .fault r
    | .refused r => .refused r

/-- The outside world does nothing but answer requests, in this order. -/
def answerInputs (answers : List Answer) : List Input := answers.map .answer

/-- Every request of a run succeeds; the list gives the bytes answered. -/
def okAnswers (data : List Byte) : List Answer := data.map .ok

/-- An interaction that failed. -/
def Event.failed : Event → Bool
  | .pin _ .ok => false
  | .pin _ .err => true
  | .xfer _ (.ok _) => false
  | .xfer _ .err => true

/-- The kinds of the failures among some events, oldest first (60_exceptions.md R180). -/
def failureKinds : List Event → List ErrCode
  | [] => []
  | .pin _ .err :: rest => .pin :: failureKinds rest
  | .xfer _ .err :: rest => .transport :: failureKinds rest
  | .pin _ .ok :: rest => failureKinds rest
  | .xfer _ (.ok _) :: rest => failureKinds rest

/-- `fsm` and `seq` say the same (10_state.md R21, R24). -/
def seqAgrees (s : State) : Bool :=
  match s.seq, s.fsm with
  | .none, .idle => true
  | .none, .failed => true
  | .init, .init => true
  | .run _, .run => true
  | _, _ => false

/-- The line and the place in the sequence agree (10_state.md R22, R44; 40_primitives.md R107, R112):
an exchange is made only while the line is LOW, and a frame has failed only after a `note`. -/
def lineAgrees (s : State) : Bool :=
  match s.seq with
  | .none => decide (s.cs ≠ .low) && decide (s.cs = .unknown → s.err = .pin)
  | .init => decide (s.cs = .unknown) && decide (s.err = .none) && decide (s.prev = .none)
  | .run q =>
    (q.frame.ok || decide (s.err ≠ .none)) &&
      match q.frame.pos with
      | .select => decide (s.cs ≠ .low) && q.frame.ok && decide (q.frame.rx = [])
      | .exchange =>
        decide (s.cs = .low) && q.frame.ok && (decide (q.frame.out ≠ []) || decide (q.frame.nread ≠ 0))
      | .deselect => decide (s.cs = .low) || (decide (s.cs = .unknown) && !q.frame.ok)

/-- The outcome flags say what they stand for (10_state.md R25, R29, R30; 60_exceptions.md R185,
R190). -/
def flagsAgree (s : State) : Bool :=
  decide (s.initFail = decide (s.fsm = .failed)) &&
    decide (s.fsm = .failed → s.err = .pin ∧ s.cs = .unknown) &&
    decide (s.done = true → s.fsm = .idle) &&
    decide (s.fsm = .idle → s.done = false → s.err = .none) &&
    decide (s.valid = (s.done && decide (s.err = .none))) &&
    decide (s.prev ≠ .none → s.err ≠ .none) &&
    decide (s.reject = decide (s.rejReason ≠ .none)) &&
    decide (s.rcount.toNat ≤ 32)

/-- A running command's word is one the decoder accepts (10_state.md R23, 60_exceptions.md R184). -/
def commandDecodes (s : State) : Bool :=
  match s.fsm, decode s.cmd with
  | .run, .error _ => false
  | _, _ => true

/-- The invariant of the machine: a configuration the rules hold for, and every field in agreement
with the others. -/
def Consistent (s : State) : Bool :=
  configOk s.cfg && seqAgrees s && lineAgrees s && flagsAgree s && commandDecodes s

/-- The tail of a frame's trace after its select succeeded, for the bytes still to be exchanged: all
exchanges succeed, or one fails and is the last; then the deselect (40_primitives.md R111 (b), (c)). -/
def exchangesShape : List Byte → List Event → Bool
  | [], [.pin .high _] => true
  | b :: bytes, .xfer b' (.ok _) :: rest => decide (b = b') && exchangesShape bytes rest
  | b :: _, [.xfer b' .err, .pin .high _] => decide (b = b')
  | _, _ => false

/-- The trace of one frame that exchanges these bytes (40_primitives.md R111). -/
def frameShape (bytes : List Byte) : List Event → Bool
  | [.pin .low .err, .pin .high _] => true
  | .pin .low .ok :: rest => exchangesShape bytes rest
  | _ => false

/-- The bytes a read frame exchanges: its header, then a placeholder per read (30_encoding.md R73). -/
def readBytes (a : Byte) (n : Nat) : List Byte := (a ||| 0x80) :: List.replicate n 0x00

/-- The events of a frame in which every interaction succeeds: (sent, received) per exchange
(40_primitives.md R111 (c)). -/
def okFrame (exchanges : List (Byte × Byte)) : List Event :=
  .pin .low .ok :: exchanges.map (fun x => .xfer x.1 (.ok x.2)) ++ [.pin .high .ok]

/-- The trace of `rmw_core(a, clear, set)`: a failed read frame and nothing more, or a successful one
and then a write frame of the value computed from the byte it read (42_rmw.md R143, R144, R151). -/
def RmwShape (a clear set : Byte) (evs : List Event) : Prop :=
  (frameShape (readBytes a 1) evs = true ∧ evs.any Event.failed = true) ∨
    ∃ h v wr, evs = okFrame [(a ||| 0x80, h), (0x00, v)] ++ wr ∧
      frameShape [a, (v &&& ~~~clear) ||| set] wr = true

/-- The trace of `burst_core(a, n)`: the setting of the flag; the data frame, if and only if the
setting had no failure; and the clearing of the flag, always (43_burst.md R162, R163). -/
def BurstShape (aiReg a : Byte) (n : Nat) (evs : List Event) : Prop :=
  ∃ p1 p2 p3, evs = p1 ++ p2 ++ p3 ∧ RmwShape aiReg 0x00 0x04 p1 ∧ RmwShape aiReg 0x04 0x00 p3 ∧
    if p1.any Event.failed then p2 = [] else frameShape (readBytes a n) p2 = true

end Sys2Proof.Machine
end

