-- ==== Sys2Proof/Certificates/Slice0/Obligations.lean ====
section
/-! DEFINITION. The statements for the provers. Unless a docstring says otherwise, `s` is any state
whose configuration the rules hold for, reachable or not. "The spec's inference" marks what a rule
itself marks as derived; "the model's own" marks a choice of the log entry named. What a statement
says of `inputs`, `hostRead` and `draws`, and of `cur` and `new` outside a read-modify-write, is the
model's own throughout (log 2, log 8, log 6, log 16). -/

open Sys2Proof Sys2Proof.Machine

/-! ## The command word -/

/-- R75, R77, R78: decoding undoes encoding, for every well-formed instruction. -/
def Obligations.DecodeOfEncode : Prop :=
  ∀ i : Instr, i.wf = true → decode (encode i) = .ok i

/-- R78, R85, and R79, the spec's inference: a word that decodes is the encoding of exactly the
instruction it decodes to, and that instruction is well formed: no bit of an accepted word is
dropped. -/
def Obligations.EncodeOfDecode : Prop :=
  ∀ (w : Word) (i : Instr), decode w = .ok i → i.wf = true ∧ encode i = w

/-- R75, R77, and R89, the spec's inference: the six example encodings, in both directions. -/
def Obligations.ExampleEncodings : Prop :=
  [(Instr.readReg 0x0F, (0x00000F01 : Word)), (.writeReg 0x20 0x50, 0x00502002),
    (.rmw 0x20 0x0C 0x04, 0x040C2003), (.setField .odr 4, 0x00040024),
    (.burstRead 0x28 6, 0x00062805), (.readAxes, 0x00000006)].all
      (fun x => decide (encode x.1 = x.2) && decide ((decode x.2).toOption = some x.1)) = true

/-- R84: in IDLE, a word whose opcode is 0x0 or 0x7..0xF is refused with ILLEGAL_OPC and has no
other effect. -/
def Obligations.IllegalOpcodeRefused : Prop :=
  ∀ (s : State) (w : Word) (rest : List Input),
    configOk s.cfg = true → s.fsm = .idle → s.inputs = .hostWrite 0x00 4 w :: rest →
    ((w.extractLsb' 0 4).toNat = 0 ∨ 7 ≤ (w.extractLsb' 0 4).toNat) →
    step s = .next { s with inputs := rest, reject := true, rejReason := .illegalOpc }

/-- R80: in IDLE, a word of one of the six opcodes with a non-zero bit in a field the opcode does
not use is refused with RESERVED, and nothing of the command is performed. -/
def Obligations.ReservedFieldRefused : Prop :=
  ∀ (s : State) (w : Word) (rest : List Input),
    configOk s.cfg = true → s.fsm = .idle → s.inputs = .hostWrite 0x00 4 w :: rest →
    (w &&& 0xF = 1 ∧ w &&& 0xFFFF00F0 ≠ 0 ∨ w &&& 0xF = 2 ∧ w &&& 0xFF0000F0 ≠ 0 ∨
      w &&& 0xF = 3 ∧ w &&& 0x000000F0 ≠ 0 ∨ w &&& 0xF = 4 ∧ w &&& 0xFF00FF00 ≠ 0 ∨
      w &&& 0xF = 5 ∧ w &&& 0xFF0000F0 ≠ 0 ∨ w &&& 0xF = 6 ∧ w &&& 0xFFFFFFF0 ≠ 0) →
    step s = .next { s with inputs := rest, reject := true, rejReason := .reserved }

/-- R81: in IDLE, a READ_REG, WRITE_REG, RMW or BURST_READ word with its unused fields zero and its
address outside VALID_ADDR is refused with BAD_ADDR; every address of 0x80 or more is outside. -/
def Obligations.AddressOutsideMapRefused : Prop :=
  (∀ (s : State) (w : Word) (rest : List Input),
    configOk s.cfg = true → s.fsm = .idle → s.inputs = .hostWrite 0x00 4 w :: rest →
    (w &&& 0xFFFF00FF = 1 ∨ w &&& 0xFF0000FF = 2 ∨ w &&& 0x000000FF = 3 ∨ w &&& 0xFF0000FF = 5) →
    (let a := (w.extractLsb' 8 8).toNat
     ¬ ((0x0D ≤ a ∧ a ≤ 0x0F) ∨ (0x20 ≤ a ∧ a ≤ 0x3F))) →
    step s = .next { s with inputs := rest, reject := true, rejReason := .badAddr }) ∧
  ∀ a : Byte, 0x80 ≤ a.toNat → validAddr a = false

/-- R82: what the burst's range check admits, its closed form, its bound, and the refusal of the
words it turns away: count 0 and ranges that leave VALID_ADDR. -/
def Obligations.BurstRangeChecked : Prop :=
  (∀ a n : Byte, rangeOk a n = true ↔
    1 ≤ n.toNat ∧ ∀ i < n.toNat, (0x0D ≤ a.toNat + i ∧ a.toNat + i ≤ 0x0F) ∨
      (0x20 ≤ a.toNat + i ∧ a.toNat + i ≤ 0x3F)) ∧
  (∀ a n : Byte, rangeOk a n = true ↔
    1 ≤ n.toNat ∧ ((0x0D ≤ a.toNat ∧ a.toNat + n.toNat - 1 ≤ 0x0F) ∨
      (0x20 ≤ a.toNat ∧ a.toNat + n.toNat - 1 ≤ 0x3F))) ∧
  (∀ a n : Byte, rangeOk a n = true → n.toNat ≤ 32) ∧
  ∀ (s : State) (w : Word) (rest : List Input),
    configOk s.cfg = true → s.fsm = .idle → s.inputs = .hostWrite 0x00 4 w :: rest →
    w &&& 0xFF0000FF = 5 → validAddr (w.extractLsb' 8 8) = true →
    rangeOk (w.extractLsb' 8 8) (w.extractLsb' 16 8) = false →
    step s = .next { s with inputs := rest, reject := true, rejReason := .badCount }

/-- R83: the field check holds of an index below 5 with a code below the field's variant count, and
of nothing else; and in IDLE, a SET_FIELD word with its unused fields zero and an index of 5 or
more, or a code at or beyond the field's variant count (3, 4, 10, 4, 2), is refused with BAD_FIELD.
-/
def Obligations.FieldOutsideTableRefused : Prop :=
  (∀ (idx : BitVec 4) (code : Byte), (fieldOfIndex idx).any (fun f => codeOk f code) = true ↔
    idx.toNat < 5 ∧ code.toNat < [3, 4, 10, 4, 2].getD idx.toNat 0) ∧
  ∀ (s : State) (w : Word) (rest : List Input),
    configOk s.cfg = true → s.fsm = .idle → s.inputs = .hostWrite 0x00 4 w :: rest →
    w &&& 0xFF00FF0F = 4 →
    ([3, 4, 10, 4, 2].getD (w.extractLsb' 4 4).toNat 0 ≤ (w.extractLsb' 16 8).toNat) →
    step s = .next { s with inputs := rest, reject := true, rejReason := .badField }

/-- R88: the pseudo-commands expand to one command each, and READ_ID under TEST_CFG is the word
0x00000F01. -/
def Obligations.PseudoCommandsExpand : Prop :=
  (∀ (cfg : Config) (v a m : Byte),
    expandPseudo cfg .readId = .readReg cfg.idAddr ∧
    expandPseudo cfg (.setMode v) = .setField .mode v ∧
    expandPseudo cfg (.setLpMode v) = .setField .lpMode v ∧
    expandPseudo cfg (.setOdr v) = .setField .odr v ∧
    expandPseudo cfg (.setFs v) = .setField .fs v ∧
    expandPseudo cfg (.setLowNoise v) = .setField .lowNoise v ∧
    expandPseudo cfg (.setBits a m) = .rmw a 0x00 m ∧
    expandPseudo cfg (.clrBits a m) = .rmw a m 0x00) ∧
  encode (expandPseudo Config.testCfg .readId) = 0x00000F01

/-! ## Acceptance and refusal -/

/-- R184: a step that takes a CMD write of a word that decodes is the meaning of the decoded
instruction, at the state without that input. -/
def Obligations.StepRunsDecodedCommand : Prop :=
  ∀ (s : State) (w : Word) (i : Instr) (rest : List Input),
    configOk s.cfg = true → s.inputs = .hostWrite 0x00 4 w :: rest → decode w = .ok i →
    step s = exec i { s with inputs := rest }

/-- The model's own (log 3): in IDLE, the step after `withFetchWord` is the meaning of the
instruction whose word was placed. -/
def Obligations.PlacedWordRunsNext : Prop :=
  ∀ (s : State) (i : Instr),
    configOk s.cfg = true → s.fsm = .idle → i.wf = true →
    step (s.withFetchWord 32 (encode i).toNat) = exec i s

/-- R113, for each of the six commands: in IDLE the command is accepted. Its word, mode, flags and
`rcount` are written as R113 says, `axis_valid` by READ_AXES alone, its first interaction is a
select, and every other field is as before. R113 speaks of an accepted word, and so of well-formed
instructions. That `exec` accepts an ill-formed one too, which the decoder never gives, and takes
its burst count at 6 bits, is the model's own (log 20). -/
def Obligations.AcceptanceBeginsTheCommand : Prop :=
  ∀ (s : State) (i : Instr), s.fsm = .idle →
    ∃ q, exec i s = .next { s with
        cmd := encode i, fsm := .run, err := .none, prev := .none, done := false, valid := false,
        reject := false, rejReason := .none,
        rcount := (match i with
          | .readReg _ => 1
          | .writeReg _ _ => 0
          | .rmw _ _ _ => 2
          | .setField _ _ => 2
          | .burstRead _ n => n.setWidth 6
          | .readAxes => 6),
        axisValid := (match i with
          | .readAxes => false
          | _ => s.axisValid),
        seq := .run q } ∧
      request { s with seq := .run q } = some (.pinDrive .low)

/-- R184, R185: in INIT and RUN every one of the six commands is turned away with BUSY, in FAILED
with INIT_FAILED, and nothing else changes. -/
def Obligations.CommandsTurnedAwayOutsideIdle : Prop :=
  ∀ (s : State) (i : Instr),
    (s.fsm = .init ∨ s.fsm = .run →
      exec i s = .next { s with reject := true, rejReason := .busy }) ∧
    (s.fsm = .failed → exec i s = .next { s with reject := true, rejReason := .initFailed })

/-- R66, R185, R220: while BUSY = 1, a CMD write of any word at all is refused with BUSY: the
running command, its word, its sequence and its results are unchanged, and no interaction is made.
-/
def Obligations.BusyRefusesEveryWord : Prop :=
  ∀ (s : State) (w : Word) (rest : List Input),
    configOk s.cfg = true → (s.fsm = .init ∨ s.fsm = .run) →
    s.inputs = .hostWrite 0x00 4 w :: rest →
    step s = .next { s with inputs := rest, reject := true, rejReason := .busy }

/-- R190: a failed initial drive leads to FAILED; in FAILED every CMD write is refused with
INIT_FAILED; and reset leaves FAILED while no other input does. -/
def Obligations.FailedUntilReset : Prop :=
  (∀ (s : State) (rest : List Input),
    configOk s.cfg = true → s.seq = .init → s.inputs = .answer .err :: rest →
    ∃ t, step s = .next t ∧ t.fsm = .failed) ∧
  (∀ (s : State) (w : Word) (rest : List Input),
    configOk s.cfg = true → s.fsm = .failed → s.inputs = .hostWrite 0x00 4 w :: rest →
    step s = .next { s with inputs := rest, reject := true, rejReason := .initFailed }) ∧
  ∀ (s t : State) (i : Input) (rest : List Input),
    Consistent s = true → s.fsm = .failed → s.inputs = i :: rest → step s = .next t →
    (t.fsm = .failed ↔ i ≠ .reset)

/-! ## Reset, INIT and configuration -/

/-- R43: what State.reset holds, for every element to which the spec gives a reset value, with the
one interaction of the INIT sequence as its request. -/
def Obligations.ResetValues : Prop :=
  ∀ cfg : Config, let s := State.resetOf cfg
    s.fsm = .init ∧ s.cs = .unknown ∧ s.cmd = 0x00000000 ∧ s.seq = .init ∧
    request s = some (.pinDrive .high) ∧
    s.err = .none ∧ s.prev = .none ∧ s.rcount = 0 ∧ s.done = false ∧ s.valid = false ∧
    s.axisValid = false ∧ s.reject = false ∧ s.initFail = false ∧ s.rejReason = .none ∧ s.trace = [] ∧
    s.cfg = cfg

/-- R210: in any mode, asserting reset puts every element to which the spec gives a reset value at
it, and leaves the configuration unchanged. -/
def Obligations.ResetAtAnyTime : Prop :=
  ∀ (s : State) (rest : List Input),
    configOk s.cfg = true → s.inputs = .reset :: rest →
    ∃ t, step s = .next t ∧ t.fsm = .init ∧ t.cs = .unknown ∧ t.cmd = 0 ∧ t.seq = .init ∧
      t.err = .none ∧ t.prev = .none ∧ t.rcount = 0 ∧ t.done = false ∧ t.valid = false ∧
      t.axisValid = false ∧ t.reject = false ∧ t.rejReason = .none ∧ t.initFail = false ∧
      t.trace = [] ∧ t.cfg = s.cfg ∧ t.inputs = rest

/-- R213 (the late response is the model's input of log 12): a reset in the middle of a command
discards it: the abandoned request's response is ignored, the next request is INIT's drive to HIGH
and nothing else, and when it succeeds the engine is IDLE with the line HIGH and no command done. -/
def Obligations.ResetDiscardsTheCommand : Prop :=
  ∀ (s : State) (q : RunSeq) (late : Answer) (d : Byte) (rest : List Input),
    configOk s.cfg = true → s.seq = .run q →
    s.inputs = .reset :: .lateAnswer late :: .answer (.ok d) :: rest →
    ∃ t u v, step s = .next t ∧ step t = .next u ∧ step u = .next v ∧
      request t = some (.pinDrive .high) ∧ u = { t with inputs := .answer (.ok d) :: rest } ∧
      v.fsm = .idle ∧ v.seq = .none ∧ v.cs = .high ∧ v.done = false ∧ v.err = .none ∧
      v.trace = [.pin .high .ok]

/-- R212: the two outcomes of INIT from the reset state of any configuration the rules hold for,
with the trace, and the STATUS word before and after, which the spec infers from R34. -/
def Obligations.InitOutcome : Prop :=
  ∀ (cfg : Config) (d : Byte) (rest : List Input), configOk cfg = true →
    let s := { State.resetOf cfg with inputs := .answer (.ok d) :: rest }
    let s' := { State.resetOf cfg with inputs := .answer .err :: rest }
    statusWord s = 0x00002001 ∧
    (∃ t, step s = .next t ∧ t.cs = .high ∧ t.fsm = .idle ∧ t.err = .none ∧ t.done = false ∧
      t.trace = [.pin .high .ok] ∧ statusWord t = 0x00001000) ∧
    ∃ t, step s' = .next t ∧ t.cs = .unknown ∧ t.err = .pin ∧ t.initFail = true ∧
      t.fsm = .failed ∧ t.done = false ∧ t.trace = [.pin .high .err] ∧ statusWord t = 0x00002808

/-- R41: no step changes the configuration. -/
def Obligations.ConfigurationNeverChanges : Prop :=
  ∀ s t : State, step s = .next t → t.cfg = s.cfg

/-- R215: a configuration that breaks the constraints on the parameters, or whose field table is not
well formed, has no run. -/
def Obligations.IllFormedConfigurationHasNoRun : Prop :=
  ∀ s : State, (paramsOk s.cfg = false ∨ fieldTableOk s.cfg = false) → step s = .refused .badConfig

/-- R8 to R11, R141: the constraints on the parameters, written out on the addresses; what is left
of the field table's checks for the table of R140; parameters that meet their constraints make the
field table well formed; the source's single-register layout fails it. -/
def Obligations.FieldTableFollowsFromParameters : Prop :=
  (∀ cfg : Config,
    let valid (a : Nat) : Prop := (0x0D ≤ a ∧ a ≤ 0x0F) ∨ (0x20 ≤ a ∧ a ≤ 0x3F)
    (paramsOk cfg = true ↔
      valid cfg.aiReg.toNat ∧ valid cfg.idAddr.toNat ∧ (∀ k < 6, valid (cfg.xlAddr.toNat + k)) ∧
      valid cfg.cfgRegA.toNat ∧ valid cfg.cfgRegB.toNat ∧
      cfg.cfgRegA ≠ cfg.cfgRegB ∧ cfg.cfgRegA ≠ cfg.aiReg ∧ cfg.cfgRegB ≠ cfg.aiReg) ∧
    (fieldTableOk cfg = true ↔
      valid cfg.cfgRegA.toNat ∧ valid cfg.cfgRegB.toNat ∧
      cfg.cfgRegA ≠ cfg.cfgRegB ∧ cfg.cfgRegA ≠ cfg.aiReg ∧ cfg.cfgRegB ≠ cfg.aiReg)) ∧
  (∀ cfg : Config, paramsOk cfg = true → fieldTableOk cfg = true) ∧
  ∀ cfg : Config, cfg.cfgRegA = cfg.cfgRegB → fieldTableOk cfg = false

/-! ## Interactions and the error accumulator -/

/-- R100, R101, R22: an answer to an outstanding request records that interaction and nothing else
in the trace, and writes `cs` exactly when the request was a drive; the command word, `rcount`, the
refusal record and the rest of the inputs are as before. -/
def Obligations.AnswerPerformsTheRequest : Prop :=
  ∀ (s : State) (a : Answer) (r : Request) (rest : List Input),
    configOk s.cfg = true → s.inputs = .answer a :: rest → request s = some r →
    ∃ t, step s = .next t ∧ t.inputs = rest ∧ t.cmd = s.cmd ∧ t.rcount = s.rcount ∧
      t.reject = s.reject ∧ t.rejReason = s.rejReason ∧ t.hostRead = s.hostRead ∧
      match r, a with
      | .pinDrive .low, .ok _ => t.cs = .low ∧ t.trace = s.trace ++ [.pin .low .ok]
      | .pinDrive .high, .ok _ => t.cs = .high ∧ t.trace = s.trace ++ [.pin .high .ok]
      | .pinDrive l, .err => t.cs = .unknown ∧ t.trace = s.trace ++ [.pin l .err]
      | .xfer b, .ok v => t.cs = s.cs ∧ t.trace = s.trace ++ [.xfer b (.ok v)]
      | .xfer b, .err => t.cs = s.cs ∧ t.trace = s.trace ++ [.xfer b .err]

/-- R22, R31, R184: the line and the trace change at answers and at reset only; in particular
accepting or refusing a command makes no interaction. -/
def Obligations.OnlyAnswersTouchTheLine : Prop :=
  ∀ (s t : State) (i : Input) (rest : List Input),
    s.inputs = i :: rest → step s = .next t → i ≠ .reset → (∀ a, i ≠ .answer a) →
    t.cs = s.cs ∧ t.trace = s.trace

/-- R117, with no input as the model's form of it (log 2): an engine whose ports never answer and
whose host does nothing stays as it is for ever. -/
def Obligations.UnansweredEngineStays : Prop :=
  ∀ (s : State) (n : Nat), configOk s.cfg = true → s.inputs = [] → runSteps n s = .next s

/-- R107, and R112, the spec's inference: every exchange the engine asks for, it asks for while the
line is LOW. -/
def Obligations.ExchangeOnlyWhileSelected : Prop :=
  ∀ (s : State) (b : Byte), Consistent s = true → request s = some (.xfer b) → s.cs = .low

/-- R74: the response to a sent byte, the header's among them, is discarded: two responses lead to
the same state but for the event itself. -/
def Obligations.SentByteResponseDiscarded : Prop :=
  ∀ (s : State) (q : RunSeq) (b x y : Byte) (out : List Byte),
    s.seq = .run q → q.frame.pos = .exchange → q.frame.out = b :: out →
    (answered (.ok x) s).trace = s.trace ++ [.xfer b (.ok x)] ∧
    answered (.ok y) s = { answered (.ok x) s with trace := s.trace ++ [.xfer b (.ok y)] }

/-- R106, R183: `note`; and after any whole command, whatever the ports answer, `err` is the kind of
the last failure and `prev` the kind of the one before it, NONE where there is none, and `valid`
says that nothing failed. -/
def Obligations.LastTwoFailuresReported : Prop :=
  (∀ (s : State) (k : ErrCode), (note k s).err = k ∧
    (note k s).prev = (if s.err = .none then s.prev else s.err)) ∧
  ∀ (s : State) (i : Instr) (answers : List Answer),
    configOk s.cfg = true → s.fsm = .idle → i.wf = true → answers.length = 51 →
    s.inputs = answerInputs answers →
    ∃ t u evs, exec i s = .next t ∧ runSteps 51 t = .next u ∧ u.trace = s.trace ++ evs ∧
      u.err = (failureKinds evs).getLast?.getD .none ∧
      u.prev = (failureKinds evs).dropLast.getLast?.getD .none ∧
      (u.valid = true ↔ failureKinds evs = [])

/-! ## Traces of whole commands, whatever the ports answer -/

/-- R120, and R111, R121, the spec's inferences: a READ_REG completes, and makes
one frame, of its header and one placeholder. -/
def Obligations.ReadRegTrace : Prop :=
  ∀ (s : State) (a : Byte) (answers : List Answer),
    configOk s.cfg = true → s.fsm = .idle → validAddr a = true → answers.length = 51 →
    s.inputs = answerInputs answers →
    ∃ t u evs, exec (.readReg a) s = .next t ∧ runSteps 51 t = .next u ∧
      u.fsm = .idle ∧ u.done = true ∧ u.trace = s.trace ++ evs ∧
      frameShape [a ||| 0x80, 0x00] evs = true

/-- R125, and R111, R126, the spec's inferences: a WRITE_REG completes, and
makes one frame, of its address, bit 7 clear, and its data. -/
def Obligations.WriteRegTrace : Prop :=
  ∀ (s : State) (a b : Byte) (answers : List Answer),
    configOk s.cfg = true → s.fsm = .idle → validAddr a = true → answers.length = 51 →
    s.inputs = answerInputs answers →
    a.getLsbD 7 = false ∧
    ∃ t u evs, exec (.writeReg a b) s = .next t ∧ runSteps 51 t = .next u ∧
      u.fsm = .idle ∧ u.done = true ∧ u.trace = s.trace ++ evs ∧
      frameShape [a, b] evs = true

/-- R143, R151, and R111, the spec's inference: an RMW makes a failed read frame and nothing more,
or a successful one and then a write frame of the value computed from the byte read. -/
def Obligations.RmwTrace : Prop :=
  ∀ (s : State) (a clear set : Byte) (answers : List Answer),
    configOk s.cfg = true → s.fsm = .idle → validAddr a = true → answers.length = 51 →
    s.inputs = answerInputs answers →
    ∃ t u evs, exec (.rmw a clear set) s = .next t ∧ runSteps 51 t = .next u ∧
      u.trace = s.trace ++ evs ∧ RmwShape a clear set evs

/-- R146, R147, and R111, the spec's inference: a SET_FIELD makes the trace of a read-modify-write
of its field's register, with the field's mask to clear and the code at its place to set. -/
def Obligations.SetFieldTrace : Prop :=
  ∀ (s : State) (f : Field) (code : Byte) (answers : List Answer),
    configOk s.cfg = true → s.fsm = .idle → codeOk f code = true → answers.length = 51 →
    s.inputs = answerInputs answers →
    ∃ t u evs, exec (.setField f code) s = .next t ∧ runSteps 51 t = .next u ∧
      u.trace = s.trace ++ evs ∧
      match f with
      | .mode => RmwShape s.cfg.cfgRegA 0x0C (code <<< 2) evs
      | .lpMode => RmwShape s.cfg.cfgRegA 0x03 code evs
      | .odr => RmwShape s.cfg.cfgRegA 0xF0 (code <<< 4) evs
      | .fs => RmwShape s.cfg.cfgRegB 0x30 (code <<< 4) evs
      | .lowNoise => RmwShape s.cfg.cfgRegB 0x04 (code <<< 2) evs

/-- R162, R163, and R111, the spec's inference: a BURST_READ sets the auto-increment flag by a
read-modify-write, makes its data frame if and only if that succeeded, and clears the flag by a
read-modify-write on every path; a READ_AXES does the same for the six bytes at XL_ADDR (R166). -/
def Obligations.BurstTrace : Prop :=
  ∀ (s : State) (a n : Byte) (answers : List Answer),
    configOk s.cfg = true → s.fsm = .idle → rangeOk a n = true → answers.length = 51 →
    s.inputs = answerInputs answers →
    (∃ t u evs, exec (.burstRead a n) s = .next t ∧ runSteps 51 t = .next u ∧
      u.trace = s.trace ++ evs ∧ BurstShape s.cfg.aiReg a n.toNat evs) ∧
    ∃ t u evs, exec .readAxes s = .next t ∧ runSteps 51 t = .next u ∧
      u.trace = s.trace ++ evs ∧ BurstShape s.cfg.aiReg s.cfg.xlAddr 6 evs

/-- R107, R110, and R44, the spec's inference: the last interaction of every command is a deselect,
and the line is then HIGH if it succeeded and UNKNOWN, with PIN reported, if it failed. -/
def Obligations.EveryCommandEndsDeselected : Prop :=
  ∀ (s : State) (i : Instr) (answers : List Answer),
    configOk s.cfg = true → s.fsm = .idle → i.wf = true → answers.length = 51 →
    s.inputs = answerInputs answers →
    ∃ t u evs, exec i s = .next t ∧ runSteps 51 t = .next u ∧
      ((u.trace = s.trace ++ evs ++ [.pin .high .ok] ∧ u.cs = .high) ∨
        (u.trace = s.trace ++ evs ++ [.pin .high .err] ∧ u.cs = .unknown ∧ u.err = .pin))

/-- R116: every command completes when 51 requests are answered, and the longest takes as many. -/
def Obligations.EveryCommandCompletesIn51 : Prop :=
  (∀ (s : State) (i : Instr) (answers : List Answer),
    configOk s.cfg = true → s.fsm = .idle → i.wf = true → answers.length = 51 →
    s.inputs = answerInputs answers →
    ∃ t u, exec i s = .next t ∧ runSteps 51 t = .next u ∧ u.fsm = .idle ∧ u.done = true ∧
      u.seq = .none ∧ u.inputs = []) ∧
  ∀ (s : State) (data : List Byte),
    configOk s.cfg = true → s.fsm = .idle → data.length = 50 →
    s.inputs = answerInputs (okAnswers data) →
    ∃ t u, exec (.burstRead 0x20 32) s = .next t ∧ runSteps 50 t = .next u ∧ u.fsm = .run

/-- The sequencer does what the pseudocode of R107, R120, R125, R143, R146, R162 and R166 does,
whatever the ports answer: a program of the pseudocode that ends after `k` answers ends in the state
the machine is in after `k` steps. -/
def Obligations.SequencerRefinesPseudocode : Prop :=
  ∀ (s : State) (i : Instr) (answers : List Answer) (rest : List Input) (r : Run),
    configOk s.cfg = true → s.fsm = .idle → i.wf = true →
    s.inputs = answerInputs answers ++ rest → runCommand i s answers = some r →
    r.answers.length < answers.length ∧
    ∃ t, exec i s = .next t ∧
      runSteps (answers.length - r.answers.length) t =
        .next { r.st with inputs := answerInputs r.answers ++ rest }

/-- R27 to R30, the frame of whole commands: RDATA from `rcount` on keeps its values; the axis
registers and `axis_valid` change in READ_AXES only, which ends with `axis_valid` saying that
nothing failed; the command word and `rcount` are the accepted ones; `init_fail`, the configuration
and the host's last read are untouched. -/
def Obligations.CommandsKeepTheRest : Prop :=
  ∀ (s : State) (i : Instr) (answers : List Answer),
    configOk s.cfg = true → s.fsm = .idle → i.wf = true → answers.length = 51 →
    s.inputs = answerInputs answers →
    ∃ t u, exec i s = .next t ∧ runSteps 51 t = .next u ∧
      (∀ k : Fin 32, u.rcount.toNat ≤ k.val → u.rdata[k] = s.rdata[k]) ∧
      (i ≠ .readAxes → u.axisX = s.axisX ∧ u.axisY = s.axisY ∧ u.axisZ = s.axisZ ∧
        u.axisValid = s.axisValid) ∧
      (i = .readAxes → u.axisValid = u.valid) ∧
      u.cmd = encode i ∧ u.rcount = resultCount i ∧ u.reject = false ∧ u.rejReason = .none ∧
      u.initFail = s.initFail ∧ u.cfg = s.cfg ∧ u.hostRead = s.hostRead

/-- R26, R150: no command reuses the working registers of an earlier one: what `cur` and `new` held
when it was accepted makes no difference to anything but themselves. -/
def Obligations.WorkingRegistersNotReused : Prop :=
  ∀ (s : State) (i : Instr) (c n : Byte) (answers : List Answer),
    configOk s.cfg = true → s.fsm = .idle → i.wf = true → answers.length = 51 →
    s.inputs = answerInputs answers →
    ∃ t u t' u', exec i s = .next t ∧ runSteps 51 t = .next u ∧
      exec i { s with cur := c, new := n } = .next t' ∧ runSteps 51 t' = .next u' ∧
      u' = { u with cur := u'.cur, new := u'.new }

/-! ## Results of successful commands -/

/-- R120: a READ_REG whose interactions succeed leaves the byte of the second exchange in RDATA[0],
and changes nothing but what is named here. That an address outside VALID_ADDR, which the
decoder never gives, runs in the same way is the model's own (log 20). -/
def Obligations.ReadRegReturnsTheByte : Prop :=
  ∀ (s : State) (a d h v e : Byte) (rest : List Input),
    configOk s.cfg = true → s.fsm = .idle →
    s.inputs = answerInputs (okAnswers [d, h, v, e]) ++ rest →
    ∃ t, exec (.readReg a) s = .next t ∧ runSteps 4 t = .next { s with
      inputs := rest, fsm := .idle, seq := .none, cs := .high,
      cmd := 0x00000001 ||| a.setWidth 32 <<< 8, rcount := 1, err := .none, prev := .none,
      rdata := s.rdata.set 0 v, done := true, valid := true, reject := false, rejReason := .none,
      trace := s.trace ++ okFrame [(a ||| 0x80, h), (0x00, v)] }

/-- R125: a WRITE_REG whose interactions succeed has sent the address and the data in one frame, and
changes nothing but what is named here: no RDATA entry. That an address outside VALID_ADDR, which
the decoder never gives, runs in the same way is the model's own (log 20). -/
def Obligations.WriteRegSendsTheByte : Prop :=
  ∀ (s : State) (a b d x y e : Byte) (rest : List Input),
    configOk s.cfg = true → s.fsm = .idle →
    s.inputs = answerInputs (okAnswers [d, x, y, e]) ++ rest →
    ∃ t, exec (.writeReg a b) s = .next t ∧ runSteps 4 t = .next { s with
      inputs := rest, fsm := .idle, seq := .none, cs := .high,
      cmd := 0x00000002 ||| a.setWidth 32 <<< 8 ||| b.setWidth 32 <<< 16, rcount := 0,
      err := .none, prev := .none, done := true, valid := true, reject := false,
      rejReason := .none, trace := s.trace ++ okFrame [(a, x), (b, y)] }

/-- R143, R145: an RMW whose interactions succeed writes `(cur & ~clear) | set`, and leaves the
value read in RDATA[0] and the value written in RDATA[1]. That an address outside VALID_ADDR, which
the decoder never gives, runs in the same way is the model's own (log 20). -/
def Obligations.RmwWritesTheModifiedByte : Prop :=
  ∀ (s : State) (a clear set d h v e d' x y e' : Byte) (rest : List Input),
    configOk s.cfg = true → s.fsm = .idle →
    s.inputs = answerInputs (okAnswers [d, h, v, e, d', x, y, e']) ++ rest →
    let new := (v &&& ~~~clear) ||| set
    ∃ t, exec (.rmw a clear set) s = .next t ∧ runSteps 8 t = .next { s with
      inputs := rest, fsm := .idle, seq := .none, cs := .high,
      cmd := 0x00000003 ||| a.setWidth 32 <<< 8 ||| clear.setWidth 32 <<< 16 |||
        set.setWidth 32 <<< 24,
      rcount := 2, err := .none, prev := .none, cur := v, new := new,
      rdata := (s.rdata.set 0 v).set 1 new, done := true, valid := true, reject := false,
      rejReason := .none,
      trace := s.trace ++ okFrame [(a ||| 0x80, h), (0x00, v)] ++ okFrame [(a, x), (new, y)] }

/-- R146: a SET_FIELD whose interactions succeed writes its field's register with the field's bits
replaced by the code and every other bit as read. -/
def Obligations.SetFieldWritesTheCode : Prop :=
  ∀ (s : State) (f : Field) (code d h v e d' x y e' : Byte) (rest : List Input),
    configOk s.cfg = true → s.fsm = .idle → codeOk f code = true →
    s.inputs = answerInputs (okAnswers [d, h, v, e, d', x, y, e']) ++ rest →
    let place : Nat × Byte × Byte × Byte := match f with
      | .mode => (0, s.cfg.cfgRegA, 0x0C, code <<< 2)
      | .lpMode => (1, s.cfg.cfgRegA, 0x03, code)
      | .odr => (2, s.cfg.cfgRegA, 0xF0, code <<< 4)
      | .fs => (3, s.cfg.cfgRegB, 0x30, code <<< 4)
      | .lowNoise => (4, s.cfg.cfgRegB, 0x04, code <<< 2)
    let idx : Word := BitVec.ofNat 32 place.1
    let reg := place.2.1
    let new := (v &&& ~~~place.2.2.1) ||| place.2.2.2
    ∃ t, exec (.setField f code) s = .next t ∧ runSteps 8 t = .next { s with
      inputs := rest, fsm := .idle, seq := .none, cs := .high,
      cmd := 0x00000004 ||| idx <<< 4 ||| code.setWidth 32 <<< 16,
      rcount := 2, err := .none, prev := .none, cur := v, new := new,
      rdata := (s.rdata.set 0 v).set 1 new, done := true, valid := true, reject := false,
      rejReason := .none,
      trace := s.trace ++ okFrame [(reg ||| 0x80, h), (0x00, v)] ++ okFrame [(reg, x), (new, y)] }

/-- R162, and R165, the spec's inference: a BURST_READ whose `n + 19` interactions succeed leaves
the `n` bytes of its data frame in RDATA[0 .. n-1], between a read-modify-write that wrote AI_REG
with bit 2 set and one that wrote it with bit 2 clear. -/
def Obligations.BurstReadReturnsTheBytes : Prop :=
  ∀ (s : State) (a n d1 h1 c1 e1 d2 x2 y2 e2 d3 h3 e3 d4 h4 c4 e4 d5 x5 y5 e5 : Byte)
    (data : List Byte) (rest : List Input),
    configOk s.cfg = true → s.fsm = .idle → rangeOk a n = true → data.length = n.toNat →
    s.inputs = answerInputs (okAnswers ([d1, h1, c1, e1, d2, x2, y2, e2, d3, h3] ++ data ++
      [e3, d4, h4, c4, e4, d5, x5, y5, e5])) ++ rest →
    let ai := s.cfg.aiReg
    ∃ t, exec (.burstRead a n) s = .next t ∧ runSteps (n.toNat + 19) t = .next { s with
      inputs := rest, fsm := .idle, seq := .none, cs := .high,
      cmd := 0x00000005 ||| a.setWidth 32 <<< 8 ||| n.setWidth 32 <<< 16,
      rcount := BitVec.ofNat 6 n.toNat, err := .none, prev := .none, cur := c4,
      new := c4 &&& 0xFB,
      rdata := Vector.ofFn fun k => if h : k.val < data.length then data[k.val] else s.rdata[k],
      done := true, valid := true, reject := false, rejReason := .none,
      trace := s.trace ++ okFrame [(ai ||| 0x80, h1), (0x00, c1)] ++
        okFrame [(ai, x2), (c1 ||| 0x04, y2)] ++
        okFrame ((a ||| 0x80, h3) :: data.map fun v => (0x00, v)) ++
        okFrame [(ai ||| 0x80, h4), (0x00, c4)] ++ okFrame [(ai, x5), (c4 &&& 0xFB, y5)] }

/-- R166, R54: a READ_AXES whose 25 interactions succeed reassembles the three samples, high byte
over low byte, from the six bytes at XL_ADDR. -/
def Obligations.ReadAxesReassemblesTheSamples : Prop :=
  ∀ (s : State)
    (xl xh yl yh zl zh d1 h1 c1 e1 d2 x2 y2 e2 d3 h3 e3 d4 h4 c4 e4 d5 x5 y5 e5 : Byte)
    (rest : List Input),
    configOk s.cfg = true → s.fsm = .idle →
    s.inputs = answerInputs (okAnswers [d1, h1, c1, e1, d2, x2, y2, e2, d3, h3, xl, xh, yl, yh, zl,
      zh, e3, d4, h4, c4, e4, d5, x5, y5, e5]) ++ rest →
    let ai := s.cfg.aiReg
    ∃ t, exec .readAxes s = .next t ∧ runSteps 25 t = .next { s with
      inputs := rest, fsm := .idle, seq := .none, cs := .high, cmd := 0x00000006, rcount := 6,
      err := .none, prev := .none, cur := c4, new := c4 &&& 0xFB,
      rdata := (((((s.rdata.set 0 xl).set 1 xh).set 2 yl).set 3 yh).set 4 zl).set 5 zh,
      axisX := xh ++ xl, axisY := yh ++ yl, axisZ := zh ++ zl, axisValid := true,
      done := true, valid := true, reject := false, rejReason := .none,
      trace := s.trace ++ okFrame [(ai ||| 0x80, h1), (0x00, c1)] ++
        okFrame [(ai, x2), (c1 ||| 0x04, y2)] ++
        okFrame [(s.cfg.xlAddr ||| 0x80, h3), (0x00, xl), (0x00, xh), (0x00, yl), (0x00, yh),
          (0x00, zl), (0x00, zh)] ++
        okFrame [(ai ||| 0x80, h4), (0x00, c4)] ++ okFrame [(ai, x5), (c4 &&& 0xFB, y5)] }

/-! ## Arithmetic -/

/-- R144: each bit of the modified byte; a bit of both masks ends 1. -/
def Obligations.ModifyBitByBit : Prop :=
  ∀ (cur clear set : Byte) (k : Nat), k < 8 →
    (modifyByte cur clear set).getLsbD k =
      if set.getLsbD k then true else if clear.getLsbD k then false else cur.getLsbD k

/-- R144, R147, and R148, R149, the spec's inferences: bits outside both masks are kept, bits of
`set` end 1, doing it twice is doing it once; and for a legal code of a field, the field then reads
as the code and its siblings as before. -/
def Obligations.IsolationAndIdempotence : Prop :=
  (∀ cur clear set : Byte,
    modifyByte cur clear set &&& ~~~(clear ||| set) = cur &&& ~~~(clear ||| set) ∧
    modifyByte cur clear set &&& set = set ∧
    modifyByte (modifyByte cur clear set) clear set = modifyByte cur clear set) ∧
  ∀ (cfg : Config) (f : Field) (code cur : Byte), codeOk f code = true →
    let d := descriptor cfg f
    let new := modifyByte cur d.mask (fieldSetBits d code)
    new &&& ~~~d.mask = cur &&& ~~~d.mask ∧ (new &&& d.mask) >>> d.shift = code ∧
      fieldSetBits d code = code <<< d.shift

/-- R166, and R167, the spec's inference: the sample of two bytes as a number; the sign comes from
the high byte alone. -/
def Obligations.AxisSampleValue : Prop :=
  ∀ lo hi : Byte,
    (axisSample lo hi).toInt =
      if hi.toNat < 0x80 then (hi.toNat * 256 + lo.toNat : Int)
      else (hi.toNat * 256 + lo.toNat : Int) - 65536

/-! ## The host registers -/

/-- R34: reading STATUS changes nothing of the engine and gives each field of the word its state
element; 11 is never read in ERR, PREV_ERR or CS; a write to it is ignored; right after reset it
reads 0x00002001. -/
def Obligations.StatusWordFields : Prop :=
  (∀ (s : State) (rest : List Input),
    configOk s.cfg = true → s.inputs = .hostRead 0x04 4 :: rest →
    ∃ w : Word, step s = .next { s with inputs := rest, hostRead := some w } ∧
      w.getLsbD 0 = decide (s.fsm = .init ∨ s.fsm = .run) ∧ w.getLsbD 1 = s.done ∧
      w.extractLsb' 2 2 = (match s.err with | .none => 0 | .transport => 1 | .pin => 2) ∧
      w.extractLsb' 4 2 = (match s.prev with | .none => 0 | .transport => 1 | .pin => 2) ∧
      w.getLsbD 6 = s.valid ∧ w.getLsbD 7 = s.reject ∧
      w.extractLsb' 8 3 = (match s.rejReason with
        | .none => 0 | .illegalOpc => 1 | .reserved => 2 | .badAddr => 3 | .badCount => 4
        | .badField => 5 | .busy => 6 | .initFailed => 7) ∧
      w.getLsbD 11 = s.initFail ∧
      w.extractLsb' 12 2 = (match s.cs with | .low => 0 | .high => 1 | .unknown => 2) ∧
      w.getLsbD 14 = s.axisValid ∧ w.getLsbD 15 = false ∧ w.extractLsb' 16 6 = s.rcount ∧
      w.extractLsb' 22 10 = 0 ∧ w.extractLsb' 2 2 ≠ 3 ∧ w.extractLsb' 4 2 ≠ 3 ∧
      w.extractLsb' 12 2 ≠ 3) ∧
  (∀ (s : State) (v : Word) (rest : List Input),
    configOk s.cfg = true → s.inputs = .hostWrite 0x04 4 v :: rest →
    step s = .next { s with inputs := rest }) ∧
  ∀ cfg : Config, statusWord (State.resetOf cfg) = 0x00002001

/-- R33, R36: CMD reads the last accepted word and ID_CONST the published constant, in every mode
and with no side effect. -/
def Obligations.ConstantRegistersRead : Prop :=
  ∀ (s : State) (rest : List Input), configOk s.cfg = true →
    (s.inputs = .hostRead 0x00 4 :: rest →
      step s = .next { s with inputs := rest, hostRead := some s.cmd }) ∧
    (s.inputs = .hostRead 0x10 4 :: rest →
      step s = .next { s with inputs := rest, hostRead := some (s.cfg.idExpected.setWidth 32) })

/-- R35, R37: while BUSY = 0, AXIS_XY reads X below Y, AXIS_Z reads Z with zeros above, and RDATAk
its four bytes, lower index in the lower lane; reading changes nothing of the engine. -/
def Obligations.ResultRegistersRead : Prop :=
  ∀ (s : State) (rest : List Input), configOk s.cfg = true → (s.fsm = .idle ∨ s.fsm = .failed) →
    (s.inputs = .hostRead 0x08 4 :: rest →
      step s = .next { s with
        inputs := rest, hostRead := some (s.axisY.setWidth 32 <<< 16 ||| s.axisX.setWidth 32) }) ∧
    (s.inputs = .hostRead 0x0C 4 :: rest →
      step s = .next { s with inputs := rest, hostRead := some (s.axisZ.setWidth 32) }) ∧
    ∀ k : Fin 8, s.inputs = .hostRead (0x20 + 4 * k.val) 4 :: rest →
      step s = .next { s with
        inputs := rest,
        hostRead := some (s.rdata[4 * k.val].setWidth 32 |||
          s.rdata[4 * k.val + 1].setWidth 32 <<< 8 ||| s.rdata[4 * k.val + 2].setWidth 32 <<< 16 |||
          s.rdata[4 * k.val + 3].setWidth 32 <<< 24) }

/-- R63: while BUSY = 1 a read of AXIS_XY, AXIS_Z or RDATAk completes and changes nothing of the
engine; its data is unspecified. That the read completes at all is the model's own (log 7). -/
def Obligations.ResultReadsWhileBusyComplete : Prop :=
  ∀ (s : State) (off : Nat) (rest : List Input),
    configOk s.cfg = true → (s.fsm = .init ∨ s.fsm = .run) →
    (off = 0x08 ∨ off = 0x0C ∨ 0x20 ≤ off ∧ off < 0x40 ∧ off % 4 = 0) →
    s.inputs = .hostRead off 4 :: rest →
    ∃ w n, step s = .next { s with inputs := rest, hostRead := some w, draws := n }

/-- R38: the reserved offsets read 0, and a write to them or to any other register but CMD has no
effect on any state. -/
def Obligations.ReservedReadsAndOtherWrites : Prop :=
  ∀ (s : State) (v : Word) (rest : List Input), configOk s.cfg = true →
    (∀ off ∈ [0x14, 0x18, 0x1C], s.inputs = .hostRead off 4 :: rest →
      step s = .next { s with inputs := rest, hostRead := some 0 }) ∧
    ∀ k : Fin 16, k ≠ 0 → s.inputs = .hostWrite (4 * k.val) 4 v :: rest →
      step s = .next { s with inputs := rest }

/-- R57: a host access of another width than 4 bytes, at an offset that is no multiple of 4, or
outside 0x00..0x3F has no step. -/
def Obligations.AccessOutsideContractRefused : Prop :=
  ∀ (s : State) (off width : Nat) (v : Word) (rest : List Input),
    configOk s.cfg = true → (width ≠ 4 ∨ off % 4 ≠ 0 ∨ 0x40 ≤ off) →
    (s.inputs = .hostRead off width :: rest ∨ s.inputs = .hostWrite off width v :: rest) →
    step s = .refused .hostAccessOutsideContract

/-! ## The invariant -/

/-- R43, with R44 and R112, the spec's inferences: the invariant holds right after reset, whatever
the OPEN parameters of an admissible configuration, and of State.reset in particular. The values of
the unspecified registers, and State.reset's TEST_CFG, are the model's own (log 4, log 1). -/
def Obligations.InvariantAtReset : Prop :=
  (∀ cfg : Config, configOk cfg = true → Consistent (State.resetOf cfg) = true) ∧
    Consistent State.reset = true

/-- R44 and R112, the spec's inferences, and the rules that write the flags (the model's own reading
of them together): every step keeps the invariant. -/
def Obligations.InvariantKept : Prop :=
  ∀ s t : State, Consistent s = true → step s = .next t → Consistent t = true
end

