-- ==== Sys2Proof/Laws/Encoding.lean ====
section
/-! SUPPORT. The fields of a command word: packing and taking apart are inverse (30_encoding.md R75). -/

namespace Sys2Proof

/-- The address map, written out (00_scope.md R7). -/
theorem validAddr_iff (a : Byte) :
    validAddr a = true ↔ (0x0D ≤ a.toNat ∧ a.toNat ≤ 0x0F) ∨ (0x20 ≤ a.toNat ∧ a.toNat ≤ 0x3F) := by
  simp [validAddr, validAddrNat]

/-- Each bit of a command word, by the field it lies in (30_encoding.md R75). -/
theorem packWord_getLsbD (c b a : Byte) (idx opc : BitVec 4) (k : Nat) :
    (packWord c b a idx opc).getLsbD k =
      if k < 4 then opc.getLsbD k else if k < 8 then idx.getLsbD (k - 4)
      else if k < 16 then a.getLsbD (k - 8) else if k < 24 then b.getLsbD (k - 16)
      else c.getLsbD (k - 24) := by
  show (c ++ b ++ a ++ idx ++ opc).getLsbD k = _
  simp only [BitVec.getLsbD_append]
  by_cases h1 : k < 4
  · simp [h1]
  by_cases h2 : k < 8
  · simp [h1, h2, show k - 4 < 4 by omega]
  by_cases h3 : k < 16
  · simp [h1, h2, h3, show ¬ k - 4 < 4 by omega, show k - 8 < 8 by omega, Nat.sub_sub]
  by_cases h4 : k < 24
  · simp [h1, h2, h3, h4, show ¬ k - 4 < 4 by omega, show ¬ k - 8 < 8 by omega,
      show k - 16 < 8 by omega, Nat.sub_sub]
  · simp [h1, h2, h3, h4, show ¬ k - 4 < 4 by omega, show ¬ k - 8 < 8 by omega,
      show ¬ k - 16 < 8 by omega, Nat.sub_sub]

/-- The same, for an index known to be in range. -/
theorem packWord_getElem (c b a : Byte) (idx opc : BitVec 4) (k : Nat) (hk : k < 32) :
    (packWord c b a idx opc)[k] =
      if k < 4 then opc.getLsbD k else if k < 8 then idx.getLsbD (k - 4)
      else if k < 16 then a.getLsbD (k - 8) else if k < 24 then b.getLsbD (k - 16)
      else c.getLsbD (k - 24) := by
  rw [← packWord_getLsbD, BitVec.getLsbD_eq_getElem hk]

theorem opcOf_packWord (c b a : Byte) (idx opc : BitVec 4) :
    opcOf (packWord c b a idx opc) = opc := by
  ext k hk
  simp [opcOf, packWord_getLsbD, hk]

theorem idxOf_packWord (c b a : Byte) (idx opc : BitVec 4) :
    idxOf (packWord c b a idx opc) = idx := by
  ext k hk
  simp [idxOf, packWord_getLsbD, hk,  show 4 + k < 8 by omega]

theorem aOf_packWord (c b a : Byte) (idx opc : BitVec 4) :
    aOf (packWord c b a idx opc) = a := by
  ext k hk
  simp [aOf, packWord_getLsbD, hk, show 8 + k < 16 by omega, show ¬ 8 + k < 4 by omega]

theorem bOf_packWord (c b a : Byte) (idx opc : BitVec 4) :
    bOf (packWord c b a idx opc) = b := by
  ext k hk
  simp [bOf, packWord_getLsbD, hk, show 16 + k < 24 by omega, show ¬ 16 + k < 4 by omega,
    show ¬ 16 + k < 8 by omega]

theorem cOf_packWord (c b a : Byte) (idx opc : BitVec 4) :
    cOf (packWord c b a idx opc) = c := by
  ext k hk
  simp [cOf, packWord_getLsbD, hk, show ¬ 24 + k < 4 by omega, show ¬ 24 + k < 8 by omega,
    show ¬ 24 + k < 16 by omega]

/-- A word is the packing of its five fields: they cover all of its bits (30_encoding.md R75). -/
theorem packWord_fields (w : Word) : packWord (cOf w) (bOf w) (aOf w) (idxOf w) (opcOf w) = w := by
  ext k hk
  rw [packWord_getElem]
  simp only [opcOf, idxOf, aOf, bOf, cOf, BitVec.getLsbD_extractLsb']
  split
  · simp [*]
  split
  · simp [*, show k - 4 < 4 by omega, show 4 + (k - 4) = k by omega]
  split
  · simp [*, show k - 8 < 8 by omega, show 8 + (k - 8) = k by omega]
  split
  · simp [*, show k - 16 < 8 by omega, show 16 + (k - 16) = k by omega]
  · simp [*, show k - 24 < 8 by omega, show 24 + (k - 24) = k by omega]

end Sys2Proof
end

