-- ==== Sys2Proof/Laws/State.lean ====
section
/-! SUPPORT. One lemma per field per update: each operation says what every field of State is after it.
All hold by unfolding, so that no proof needs to unfold a record update. -/

namespace Sys2Proof.Machine

variable (s : State)

@[simp] theorem pinDrive_fsm (l : Level) (r : PinResp) : (pinDrive l r s).fsm = s.fsm := rfl
@[simp] theorem pinDrive_cs_ok (l : Level) : (pinDrive l .ok s).cs = l.toCs := rfl
@[simp] theorem pinDrive_cs_err (l : Level) : (pinDrive l .err s).cs = .unknown := rfl
@[simp] theorem pinDrive_cmd (l : Level) (r : PinResp) : (pinDrive l r s).cmd = s.cmd := rfl
@[simp] theorem pinDrive_seq (l : Level) (r : PinResp) : (pinDrive l r s).seq = s.seq := rfl
@[simp] theorem pinDrive_err (l : Level) (r : PinResp) : (pinDrive l r s).err = s.err := rfl
@[simp] theorem pinDrive_prev (l : Level) (r : PinResp) : (pinDrive l r s).prev = s.prev := rfl
@[simp] theorem pinDrive_cur (l : Level) (r : PinResp) : (pinDrive l r s).cur = s.cur := rfl
@[simp] theorem pinDrive_new (l : Level) (r : PinResp) : (pinDrive l r s).new = s.new := rfl
@[simp] theorem pinDrive_rdata (l : Level) (r : PinResp) : (pinDrive l r s).rdata = s.rdata := rfl
@[simp] theorem pinDrive_axisX (l : Level) (r : PinResp) : (pinDrive l r s).axisX = s.axisX := rfl
@[simp] theorem pinDrive_axisY (l : Level) (r : PinResp) : (pinDrive l r s).axisY = s.axisY := rfl
@[simp] theorem pinDrive_axisZ (l : Level) (r : PinResp) : (pinDrive l r s).axisZ = s.axisZ := rfl
@[simp] theorem pinDrive_rcount (l : Level) (r : PinResp) :
    (pinDrive l r s).rcount = s.rcount := rfl
@[simp] theorem pinDrive_done (l : Level) (r : PinResp) : (pinDrive l r s).done = s.done := rfl
@[simp] theorem pinDrive_valid (l : Level) (r : PinResp) : (pinDrive l r s).valid = s.valid := rfl
@[simp] theorem pinDrive_axisValid (l : Level) (r : PinResp) :
    (pinDrive l r s).axisValid = s.axisValid := rfl
@[simp] theorem pinDrive_reject (l : Level) (r : PinResp) :
    (pinDrive l r s).reject = s.reject := rfl
@[simp] theorem pinDrive_rejReason (l : Level) (r : PinResp) :
    (pinDrive l r s).rejReason = s.rejReason := rfl
@[simp] theorem pinDrive_initFail (l : Level) (r : PinResp) :
    (pinDrive l r s).initFail = s.initFail := rfl
@[simp] theorem pinDrive_trace (l : Level) (r : PinResp) :
    (pinDrive l r s).trace = s.trace ++ [.pin l r] := rfl
@[simp] theorem pinDrive_cfg (l : Level) (r : PinResp) : (pinDrive l r s).cfg = s.cfg := rfl
@[simp] theorem pinDrive_inputs (l : Level) (r : PinResp) :
    (pinDrive l r s).inputs = s.inputs := rfl
@[simp] theorem pinDrive_hostRead (l : Level) (r : PinResp) :
    (pinDrive l r s).hostRead = s.hostRead := rfl
@[simp] theorem pinDrive_draws (l : Level) (r : PinResp) : (pinDrive l r s).draws = s.draws := rfl

@[simp] theorem xfer_fsm (b : Byte) (r : XferResp) : (xfer b r s).fsm = s.fsm := rfl
@[simp] theorem xfer_cs (b : Byte) (r : XferResp) : (xfer b r s).cs = s.cs := rfl
@[simp] theorem xfer_cmd (b : Byte) (r : XferResp) : (xfer b r s).cmd = s.cmd := rfl
@[simp] theorem xfer_seq (b : Byte) (r : XferResp) : (xfer b r s).seq = s.seq := rfl
@[simp] theorem xfer_err (b : Byte) (r : XferResp) : (xfer b r s).err = s.err := rfl
@[simp] theorem xfer_prev (b : Byte) (r : XferResp) : (xfer b r s).prev = s.prev := rfl
@[simp] theorem xfer_cur (b : Byte) (r : XferResp) : (xfer b r s).cur = s.cur := rfl
@[simp] theorem xfer_new (b : Byte) (r : XferResp) : (xfer b r s).new = s.new := rfl
@[simp] theorem xfer_rdata (b : Byte) (r : XferResp) : (xfer b r s).rdata = s.rdata := rfl
@[simp] theorem xfer_axisX (b : Byte) (r : XferResp) : (xfer b r s).axisX = s.axisX := rfl
@[simp] theorem xfer_axisY (b : Byte) (r : XferResp) : (xfer b r s).axisY = s.axisY := rfl
@[simp] theorem xfer_axisZ (b : Byte) (r : XferResp) : (xfer b r s).axisZ = s.axisZ := rfl
@[simp] theorem xfer_rcount (b : Byte) (r : XferResp) : (xfer b r s).rcount = s.rcount := rfl
@[simp] theorem xfer_done (b : Byte) (r : XferResp) : (xfer b r s).done = s.done := rfl
@[simp] theorem xfer_valid (b : Byte) (r : XferResp) : (xfer b r s).valid = s.valid := rfl
@[simp] theorem xfer_axisValid (b : Byte) (r : XferResp) :
    (xfer b r s).axisValid = s.axisValid := rfl
@[simp] theorem xfer_reject (b : Byte) (r : XferResp) : (xfer b r s).reject = s.reject := rfl
@[simp] theorem xfer_rejReason (b : Byte) (r : XferResp) :
    (xfer b r s).rejReason = s.rejReason := rfl
@[simp] theorem xfer_initFail (b : Byte) (r : XferResp) : (xfer b r s).initFail = s.initFail := rfl
@[simp] theorem xfer_trace (b : Byte) (r : XferResp) :
    (xfer b r s).trace = s.trace ++ [.xfer b r] := rfl
@[simp] theorem xfer_cfg (b : Byte) (r : XferResp) : (xfer b r s).cfg = s.cfg := rfl
@[simp] theorem xfer_inputs (b : Byte) (r : XferResp) : (xfer b r s).inputs = s.inputs := rfl
@[simp] theorem xfer_hostRead (b : Byte) (r : XferResp) : (xfer b r s).hostRead = s.hostRead := rfl
@[simp] theorem xfer_draws (b : Byte) (r : XferResp) : (xfer b r s).draws = s.draws := rfl

@[simp] theorem note_fsm (k : ErrCode) : (note k s).fsm = s.fsm := rfl
@[simp] theorem note_cs (k : ErrCode) : (note k s).cs = s.cs := rfl
@[simp] theorem note_cmd (k : ErrCode) : (note k s).cmd = s.cmd := rfl
@[simp] theorem note_seq (k : ErrCode) : (note k s).seq = s.seq := rfl
@[simp] theorem note_err (k : ErrCode) : (note k s).err = k := rfl
@[simp] theorem note_prev (k : ErrCode) :
    (note k s).prev = if s.err = .none then s.prev else s.err := rfl
@[simp] theorem note_cur (k : ErrCode) : (note k s).cur = s.cur := rfl
@[simp] theorem note_new (k : ErrCode) : (note k s).new = s.new := rfl
@[simp] theorem note_rdata (k : ErrCode) : (note k s).rdata = s.rdata := rfl
@[simp] theorem note_axisX (k : ErrCode) : (note k s).axisX = s.axisX := rfl
@[simp] theorem note_axisY (k : ErrCode) : (note k s).axisY = s.axisY := rfl
@[simp] theorem note_axisZ (k : ErrCode) : (note k s).axisZ = s.axisZ := rfl
@[simp] theorem note_rcount (k : ErrCode) : (note k s).rcount = s.rcount := rfl
@[simp] theorem note_done (k : ErrCode) : (note k s).done = s.done := rfl
@[simp] theorem note_valid (k : ErrCode) : (note k s).valid = s.valid := rfl
@[simp] theorem note_axisValid (k : ErrCode) : (note k s).axisValid = s.axisValid := rfl
@[simp] theorem note_reject (k : ErrCode) : (note k s).reject = s.reject := rfl
@[simp] theorem note_rejReason (k : ErrCode) : (note k s).rejReason = s.rejReason := rfl
@[simp] theorem note_initFail (k : ErrCode) : (note k s).initFail = s.initFail := rfl
@[simp] theorem note_trace (k : ErrCode) : (note k s).trace = s.trace := rfl
@[simp] theorem note_cfg (k : ErrCode) : (note k s).cfg = s.cfg := rfl
@[simp] theorem note_inputs (k : ErrCode) : (note k s).inputs = s.inputs := rfl
@[simp] theorem note_hostRead (k : ErrCode) : (note k s).hostRead = s.hostRead := rfl
@[simp] theorem note_draws (k : ErrCode) : (note k s).draws = s.draws := rfl

@[simp] theorem refuse_fsm (r : RejReason) : (refuse r s).fsm = s.fsm := rfl
@[simp] theorem refuse_cs (r : RejReason) : (refuse r s).cs = s.cs := rfl
@[simp] theorem refuse_cmd (r : RejReason) : (refuse r s).cmd = s.cmd := rfl
@[simp] theorem refuse_seq (r : RejReason) : (refuse r s).seq = s.seq := rfl
@[simp] theorem refuse_err (r : RejReason) : (refuse r s).err = s.err := rfl
@[simp] theorem refuse_prev (r : RejReason) : (refuse r s).prev = s.prev := rfl
@[simp] theorem refuse_cur (r : RejReason) : (refuse r s).cur = s.cur := rfl
@[simp] theorem refuse_new (r : RejReason) : (refuse r s).new = s.new := rfl
@[simp] theorem refuse_rdata (r : RejReason) : (refuse r s).rdata = s.rdata := rfl
@[simp] theorem refuse_axisX (r : RejReason) : (refuse r s).axisX = s.axisX := rfl
@[simp] theorem refuse_axisY (r : RejReason) : (refuse r s).axisY = s.axisY := rfl
@[simp] theorem refuse_axisZ (r : RejReason) : (refuse r s).axisZ = s.axisZ := rfl
@[simp] theorem refuse_rcount (r : RejReason) : (refuse r s).rcount = s.rcount := rfl
@[simp] theorem refuse_done (r : RejReason) : (refuse r s).done = s.done := rfl
@[simp] theorem refuse_valid (r : RejReason) : (refuse r s).valid = s.valid := rfl
@[simp] theorem refuse_axisValid (r : RejReason) : (refuse r s).axisValid = s.axisValid := rfl
@[simp] theorem refuse_reject (r : RejReason) : (refuse r s).reject = true := rfl
@[simp] theorem refuse_rejReason (r : RejReason) : (refuse r s).rejReason = r := rfl
@[simp] theorem refuse_initFail (r : RejReason) : (refuse r s).initFail = s.initFail := rfl
@[simp] theorem refuse_trace (r : RejReason) : (refuse r s).trace = s.trace := rfl
@[simp] theorem refuse_cfg (r : RejReason) : (refuse r s).cfg = s.cfg := rfl
@[simp] theorem refuse_inputs (r : RejReason) : (refuse r s).inputs = s.inputs := rfl
@[simp] theorem refuse_hostRead (r : RejReason) : (refuse r s).hostRead = s.hostRead := rfl
@[simp] theorem refuse_draws (r : RejReason) : (refuse r s).draws = s.draws := rfl

@[simp] theorem moveTo_fsm (q : RunSeq) (f : Frame) : (moveTo q f s).fsm = s.fsm := rfl
@[simp] theorem moveTo_cs (q : RunSeq) (f : Frame) : (moveTo q f s).cs = s.cs := rfl
@[simp] theorem moveTo_cmd (q : RunSeq) (f : Frame) : (moveTo q f s).cmd = s.cmd := rfl
@[simp] theorem moveTo_seq (q : RunSeq) (f : Frame) :
    (moveTo q f s).seq = .run { q with frame := f } := rfl
@[simp] theorem moveTo_err (q : RunSeq) (f : Frame) : (moveTo q f s).err = s.err := rfl
@[simp] theorem moveTo_prev (q : RunSeq) (f : Frame) : (moveTo q f s).prev = s.prev := rfl
@[simp] theorem moveTo_cur (q : RunSeq) (f : Frame) : (moveTo q f s).cur = s.cur := rfl
@[simp] theorem moveTo_new (q : RunSeq) (f : Frame) : (moveTo q f s).new = s.new := rfl
@[simp] theorem moveTo_rdata (q : RunSeq) (f : Frame) : (moveTo q f s).rdata = s.rdata := rfl
@[simp] theorem moveTo_axisX (q : RunSeq) (f : Frame) : (moveTo q f s).axisX = s.axisX := rfl
@[simp] theorem moveTo_axisY (q : RunSeq) (f : Frame) : (moveTo q f s).axisY = s.axisY := rfl
@[simp] theorem moveTo_axisZ (q : RunSeq) (f : Frame) : (moveTo q f s).axisZ = s.axisZ := rfl
@[simp] theorem moveTo_rcount (q : RunSeq) (f : Frame) : (moveTo q f s).rcount = s.rcount := rfl
@[simp] theorem moveTo_done (q : RunSeq) (f : Frame) : (moveTo q f s).done = s.done := rfl
@[simp] theorem moveTo_valid (q : RunSeq) (f : Frame) : (moveTo q f s).valid = s.valid := rfl
@[simp] theorem moveTo_axisValid (q : RunSeq) (f : Frame) :
    (moveTo q f s).axisValid = s.axisValid := rfl
@[simp] theorem moveTo_reject (q : RunSeq) (f : Frame) : (moveTo q f s).reject = s.reject := rfl
@[simp] theorem moveTo_rejReason (q : RunSeq) (f : Frame) :
    (moveTo q f s).rejReason = s.rejReason := rfl
@[simp] theorem moveTo_initFail (q : RunSeq) (f : Frame) :
    (moveTo q f s).initFail = s.initFail := rfl
@[simp] theorem moveTo_trace (q : RunSeq) (f : Frame) : (moveTo q f s).trace = s.trace := rfl
@[simp] theorem moveTo_cfg (q : RunSeq) (f : Frame) : (moveTo q f s).cfg = s.cfg := rfl
@[simp] theorem moveTo_inputs (q : RunSeq) (f : Frame) : (moveTo q f s).inputs = s.inputs := rfl
@[simp] theorem moveTo_hostRead (q : RunSeq) (f : Frame) :
    (moveTo q f s).hostRead = s.hostRead := rfl
@[simp] theorem moveTo_draws (q : RunSeq) (f : Frame) : (moveTo q f s).draws = s.draws := rfl

@[simp] theorem enterFrame_fsm (op : FrameOp) (rest : Script) :
    (enterFrame op rest s).fsm = s.fsm := rfl
@[simp] theorem enterFrame_cs (op : FrameOp) (rest : Script) :
    (enterFrame op rest s).cs = s.cs := rfl
@[simp] theorem enterFrame_cmd (op : FrameOp) (rest : Script) :
    (enterFrame op rest s).cmd = s.cmd := rfl
@[simp] theorem enterFrame_seq (op : FrameOp) (rest : Script) :
    (enterFrame op rest s).seq = .run { op := op, frame := startFrame s.new op, rest := rest } := rfl
@[simp] theorem enterFrame_err (op : FrameOp) (rest : Script) :
    (enterFrame op rest s).err = s.err := rfl
@[simp] theorem enterFrame_prev (op : FrameOp) (rest : Script) :
    (enterFrame op rest s).prev = s.prev := rfl
@[simp] theorem enterFrame_cur (op : FrameOp) (rest : Script) :
    (enterFrame op rest s).cur = s.cur := rfl
@[simp] theorem enterFrame_new (op : FrameOp) (rest : Script) :
    (enterFrame op rest s).new = s.new := rfl
@[simp] theorem enterFrame_rdata (op : FrameOp) (rest : Script) :
    (enterFrame op rest s).rdata = s.rdata := rfl
@[simp] theorem enterFrame_axisX (op : FrameOp) (rest : Script) :
    (enterFrame op rest s).axisX = s.axisX := rfl
@[simp] theorem enterFrame_axisY (op : FrameOp) (rest : Script) :
    (enterFrame op rest s).axisY = s.axisY := rfl
@[simp] theorem enterFrame_axisZ (op : FrameOp) (rest : Script) :
    (enterFrame op rest s).axisZ = s.axisZ := rfl
@[simp] theorem enterFrame_rcount (op : FrameOp) (rest : Script) :
    (enterFrame op rest s).rcount = s.rcount := rfl
@[simp] theorem enterFrame_done (op : FrameOp) (rest : Script) :
    (enterFrame op rest s).done = s.done := rfl
@[simp] theorem enterFrame_valid (op : FrameOp) (rest : Script) :
    (enterFrame op rest s).valid = s.valid := rfl
@[simp] theorem enterFrame_axisValid (op : FrameOp) (rest : Script) :
    (enterFrame op rest s).axisValid = s.axisValid := rfl
@[simp] theorem enterFrame_reject (op : FrameOp) (rest : Script) :
    (enterFrame op rest s).reject = s.reject := rfl
@[simp] theorem enterFrame_rejReason (op : FrameOp) (rest : Script) :
    (enterFrame op rest s).rejReason = s.rejReason := rfl
@[simp] theorem enterFrame_initFail (op : FrameOp) (rest : Script) :
    (enterFrame op rest s).initFail = s.initFail := rfl
@[simp] theorem enterFrame_trace (op : FrameOp) (rest : Script) :
    (enterFrame op rest s).trace = s.trace := rfl
@[simp] theorem enterFrame_cfg (op : FrameOp) (rest : Script) :
    (enterFrame op rest s).cfg = s.cfg := rfl
@[simp] theorem enterFrame_inputs (op : FrameOp) (rest : Script) :
    (enterFrame op rest s).inputs = s.inputs := rfl
@[simp] theorem enterFrame_hostRead (op : FrameOp) (rest : Script) :
    (enterFrame op rest s).hostRead = s.hostRead := rfl
@[simp] theorem enterFrame_draws (op : FrameOp) (rest : Script) :
    (enterFrame op rest s).draws = s.draws := rfl

@[simp] theorem memRead_fsm (off : Nat) : (memRead off s).fsm = s.fsm := rfl
@[simp] theorem memRead_cs (off : Nat) : (memRead off s).cs = s.cs := rfl
@[simp] theorem memRead_cmd (off : Nat) : (memRead off s).cmd = s.cmd := rfl
@[simp] theorem memRead_seq (off : Nat) : (memRead off s).seq = s.seq := rfl
@[simp] theorem memRead_err (off : Nat) : (memRead off s).err = s.err := rfl
@[simp] theorem memRead_prev (off : Nat) : (memRead off s).prev = s.prev := rfl
@[simp] theorem memRead_cur (off : Nat) : (memRead off s).cur = s.cur := rfl
@[simp] theorem memRead_new (off : Nat) : (memRead off s).new = s.new := rfl
@[simp] theorem memRead_rdata (off : Nat) : (memRead off s).rdata = s.rdata := rfl
@[simp] theorem memRead_axisX (off : Nat) : (memRead off s).axisX = s.axisX := rfl
@[simp] theorem memRead_axisY (off : Nat) : (memRead off s).axisY = s.axisY := rfl
@[simp] theorem memRead_axisZ (off : Nat) : (memRead off s).axisZ = s.axisZ := rfl
@[simp] theorem memRead_rcount (off : Nat) : (memRead off s).rcount = s.rcount := rfl
@[simp] theorem memRead_done (off : Nat) : (memRead off s).done = s.done := rfl
@[simp] theorem memRead_valid (off : Nat) : (memRead off s).valid = s.valid := rfl
@[simp] theorem memRead_axisValid (off : Nat) : (memRead off s).axisValid = s.axisValid := rfl
@[simp] theorem memRead_reject (off : Nat) : (memRead off s).reject = s.reject := rfl
@[simp] theorem memRead_rejReason (off : Nat) : (memRead off s).rejReason = s.rejReason := rfl
@[simp] theorem memRead_initFail (off : Nat) : (memRead off s).initFail = s.initFail := rfl
@[simp] theorem memRead_trace (off : Nat) : (memRead off s).trace = s.trace := rfl
@[simp] theorem memRead_cfg (off : Nat) : (memRead off s).cfg = s.cfg := rfl
@[simp] theorem memRead_inputs (off : Nat) : (memRead off s).inputs = s.inputs := rfl
@[simp] theorem memRead_hostRead (off : Nat) :
    (memRead off s).hostRead = some (readData off s) := rfl
@[simp] theorem memRead_draws (off : Nat) :
    (memRead off s).draws = if readsFree off s then s.draws + 1 else s.draws := rfl

@[simp] theorem assertReset_fsm : (assertReset s).fsm = .init := rfl
@[simp] theorem assertReset_cs : (assertReset s).cs = .unknown := rfl
@[simp] theorem assertReset_cmd : (assertReset s).cmd = 0 := rfl
@[simp] theorem assertReset_seq : (assertReset s).seq = .init := rfl
@[simp] theorem assertReset_err : (assertReset s).err = .none := rfl
@[simp] theorem assertReset_prev : (assertReset s).prev = .none := rfl
@[simp] theorem assertReset_rcount : (assertReset s).rcount = 0 := rfl
@[simp] theorem assertReset_done : (assertReset s).done = false := rfl
@[simp] theorem assertReset_valid : (assertReset s).valid = false := rfl
@[simp] theorem assertReset_axisValid : (assertReset s).axisValid = false := rfl
@[simp] theorem assertReset_reject : (assertReset s).reject = false := rfl
@[simp] theorem assertReset_rejReason : (assertReset s).rejReason = .none := rfl
@[simp] theorem assertReset_initFail : (assertReset s).initFail = false := rfl
@[simp] theorem assertReset_trace : (assertReset s).trace = [] := rfl
@[simp] theorem assertReset_cfg : (assertReset s).cfg = s.cfg := rfl
@[simp] theorem assertReset_inputs : (assertReset s).inputs = s.inputs := rfl
@[simp] theorem assertReset_hostRead : (assertReset s).hostRead = none := rfl
@[simp] theorem assertReset_draws : (assertReset s).draws = s.draws + 1 := rfl

end Sys2Proof.Machine
end

