-- ==== Sys2Proof/Laws/Ops.lean ====
section
/-! SUPPORT. For each shared operation, once, everything it can do: the lemmas proofs cite instead of
unfolding the operation. -/

namespace Sys2Proof.Machine

/-! ## RDATA -/

/-- After `storeBytes`, an entry below the list's length is the list's, any other is as before. -/
theorem storeBytes_get (rx : List Byte) (v : Vector Byte 32) (k : Nat) (hk : k < 32) :
    (storeBytes rx v)[k] = if h : k < rx.length then rx[k] else v[k] := by
  by_cases h : k < rx.length <;> simp [storeBytes, h]

/-- Storing nothing changes nothing. -/
@[simp] theorem storeBytes_nil (v : Vector Byte 32) : storeBytes [] v = v := by
  ext k hk
  simp [storeBytes]

/-! ## The frame in progress -/

/-- `advance` changes the position only. -/
@[simp] theorem Frame.advance_out (f : Frame) : f.advance.out = f.out := by
  unfold Frame.advance; split <;> rfl

@[simp] theorem Frame.advance_nread (f : Frame) : f.advance.nread = f.nread := by
  unfold Frame.advance; split <;> rfl

@[simp] theorem Frame.advance_rx (f : Frame) : f.advance.rx = f.rx := by
  unfold Frame.advance; split <;> rfl

@[simp] theorem Frame.advance_ok (f : Frame) : f.advance.ok = f.ok := by
  unfold Frame.advance; split <;> rfl

/-- Where `advance` goes: to the deselect exactly when no exchange is left. -/
theorem Frame.advance_cases (f : Frame) :
    (f.out = [] ∧ f.nread = 0 ∧ f.advance.pos = .deselect) ∨
      ((f.out ≠ [] ∨ f.nread ≠ 0) ∧ f.advance.pos = .exchange) := by
  unfold Frame.advance
  split
  · exact .inl ⟨‹_ ∧ _›.1, ‹_ ∧ _›.2, rfl⟩
  · exact .inr ⟨by tauto, rfl⟩

/-- A successful exchange keeps the frame's success, and leaves its position to `advance`. -/
@[simp] theorem Frame.exchanged_ok (f : Frame) (v : Byte) : (f.exchanged v).ok = f.ok := by
  unfold Frame.exchanged; split <;> simp

/-! ## Acceptance and refusal -/

/-- The mode turns a command away unless it is IDLE. -/
theorem stateRefusal_eq_none (s : State) : stateRefusal s = none ↔ s.fsm = .idle := by
  unfold stateRefusal; split <;> simp_all

/-- A command is accepted in IDLE, and refused with the mode's reason elsewhere. -/
theorem accept_cases (w : Word) (n : BitVec 6) (sc : Script) (s : State) :
    (s.fsm = .idle ∧ accept w n sc s = begin w n sc s) ∨
      ∃ r, stateRefusal s = some r ∧ accept w n sc s = refuse r s := by
  unfold accept
  cases h : stateRefusal s with
  | none => exact .inl ⟨(stateRefusal_eq_none s).1 h, rfl⟩
  | some r => exact .inr ⟨r, rfl, rfl⟩

/-- A word that does not decode is refused in every mode. -/
theorem refuseWord_cases (reason : RejReason) (s : State) :
    (s.fsm = .idle ∧ refuseWord reason s = refuse reason s) ∨
      ∃ r, stateRefusal s = some r ∧ refuseWord reason s = refuse r s := by
  unfold refuseWord
  cases h : stateRefusal s with
  | none => exact .inl ⟨(stateRefusal_eq_none s).1 h, rfl⟩
  | some r => exact .inr ⟨r, rfl, rfl⟩

/-! ## The walk through a command's frames -/

/-- Where the sequencer goes next: into a frame of the phase, into the frames that run on every path,
or to completion. -/
theorem enterNext_cases (sc : Script) (s : State) :
    (∃ op todo, sc.todo = op :: todo ∧
      enterNext sc s = enterFrame op { sc with todo := todo } s) ∨
    (∃ op cleanup, sc.todo = [] ∧ sc.cleanup = op :: cleanup ∧
      enterNext sc s = enterFrame op { sc with todo := cleanup, cleanup := [] } s) ∨
    (sc.todo = [] ∧ sc.cleanup = [] ∧ enterNext sc s = complete sc.finish s) := by
  unfold enterNext
  split
  · next op todo h => exact .inl ⟨op, todo, h, rfl⟩
  · next op c h h' => exact .inr (.inl ⟨op, c, h, h', rfl⟩)
  · next h h' => exact .inr (.inr ⟨h, h', rfl⟩)

/-- Completion returns the engine to IDLE with the outcome of the command; the errors, the line and
the trace are what the run left. -/
theorem complete_outcome (fin : Finish) (s : State) :
    (complete fin s).fsm = .idle ∧ (complete fin s).done = true ∧ (complete fin s).seq = .none ∧
      (complete fin s).valid = decide (s.err = .none) ∧ (complete fin s).err = s.err ∧
      (complete fin s).prev = s.prev ∧ (complete fin s).cs = s.cs ∧
      (complete fin s).trace = s.trace ∧ (complete fin s).rcount = s.rcount := by
  unfold complete settleResults applyFinish scramble
  cases fin <;> by_cases h : s.err = .none <;> simp [h]

/-- Completion leaves the configuration, the outside world and the refusal record alone. -/
theorem complete_frame (fin : Finish) (s : State) :
    (complete fin s).cfg = s.cfg ∧ (complete fin s).inputs = s.inputs ∧
      (complete fin s).cmd = s.cmd ∧ (complete fin s).reject = s.reject ∧
      (complete fin s).rejReason = s.rejReason ∧ (complete fin s).initFail = s.initFail ∧
      (complete fin s).hostRead = s.hostRead := by
  unfold complete settleResults applyFinish scramble
  cases fin <;> by_cases h : s.err = .none <;> simp [h]

/-- A frame's end writes `cur`, `new` and RDATA at most. -/
theorem applyFrame_frame (op : FrameOp) (ok : Bool) (rx : List Byte) (s : State) :
    ∃ c n v, applyFrame op ok rx s = { s with cur := c, new := n, rdata := v } := by
  cases op <;> cases ok <;> exact ⟨_, _, _, rfl⟩

/-! ## Answers -/

/-- An answer does nothing without a request, ends INIT, or moves a running command by one
interaction. -/
theorem answered_cases (a : Answer) (s : State) :
    (s.seq = .none ∧ answered a s = s) ∨
    (s.seq = .init ∧ answered a s = initAnswered a.toPin s) ∨
    ∃ q, s.seq = .run q ∧
      ((q.frame.pos = .select ∧ answered a s = selectAnswered q a.toPin s) ∨
       (q.frame.pos = .exchange ∧ answered a s = exchangeAnswered q a.toXfer s) ∨
       (q.frame.pos = .deselect ∧ answered a s = deselectAnswered q a.toPin s)) := by
  unfold answered
  cases h : s.seq with
  | none => exact .inl ⟨rfl, rfl⟩
  | init => exact .inr (.inl ⟨rfl, rfl⟩)
  | run q =>
    refine .inr (.inr ⟨q, rfl, ?_⟩)
    cases hp : q.frame.pos <;> simp [hp]

/-! ## Instructions and steps -/

/-- The frames each command is made of. -/
def scriptOf (cfg : Config) : Instr → Script
  | .readReg a => readRegScript a
  | .writeReg a b => writeRegScript a b
  | .rmw a clear set => rmwScript a clear set
  | .setField f code =>
    rmwScript (descriptor cfg f).reg (descriptor cfg f).mask (fieldSetBits (descriptor cfg f) code)
  | .burstRead a n => burstScript cfg.aiReg a n .plain
  | .readAxes => burstScript cfg.aiReg cfg.xlAddr axesCount .axes

/-- Every meaning is the acceptance of its command; READ_AXES clears `axis_valid` with it. -/
theorem exec_eq_accept (i : Instr) (s : State) :
    exec i s = .next (accept (encode i) (resultCount i) (scriptOf s.cfg i)
      (if i = .readAxes then clearAxisValid s else s)) := by
  cases i <;> rfl

/-- What one input can do, when it answers a next state. -/
theorem perform_cases (i : Input) (s t : State) (h : perform i s = .next t) :
    (i = .reset ∧ t = assertReset s) ∨
    (∃ off width, i = .hostRead off width ∧ inContract off width = true ∧ t = memRead off s) ∨
    (∃ off width v, i = .hostWrite off width v ∧ inContract off width = true ∧
      ((off = 0 ∧ cmdWrite v s = .next t) ∨ (off ≠ 0 ∧ t = s))) ∨
    (∃ a, i = .answer a ∧ t = answered a s) ∨
    (∃ a, i = .lateAnswer a ∧ t = s) := by
  cases i with
  | reset => exact .inl ⟨rfl, by simpa [perform] using h.symm⟩
  | hostRead off width =>
    simp only [perform] at h
    split at h
    · exact .inr (.inl ⟨off, width, rfl, ‹_›, by simpa using h.symm⟩)
    · cases h
  | hostWrite off width v =>
    simp only [perform] at h
    split at h
    · refine .inr (.inr (.inl ⟨off, width, v, rfl, ‹_›, ?_⟩))
      unfold memWrite at h
      split at h
      · exact .inl ⟨‹_›, h⟩
      · exact .inr ⟨‹_›, by simpa using h.symm⟩
    · cases h
  | answer a => exact .inr (.inr (.inr (.inl ⟨a, rfl, by simpa [perform] using h.symm⟩)))
  | lateAnswer a => exact .inr (.inr (.inr (.inr ⟨a, rfl, by simpa [perform] using h.symm⟩)))

/-- What a CMD write can do: run the instruction its word decodes to, or record a refusal. -/
theorem cmdWrite_cases (w : Word) (s : State) :
    (∃ i, decode w = .ok i ∧ cmdWrite w s = exec i s) ∨
      ∃ r, decode w = .error r ∧ cmdWrite w s = .next (refuseWord r s) := by
  unfold cmdWrite
  cases h : decode w with
  | ok i => exact .inl ⟨i, rfl, rfl⟩
  | error r => exact .inr ⟨r, rfl, rfl⟩

/-- What a step can do, when it answers a next state: nothing, or take the next input. -/
theorem step_cases (s t : State) (h : step s = .next t) :
    configOk s.cfg = true ∧
      ((s.inputs = [] ∧ t = s) ∨
        ∃ i rest, s.inputs = i :: rest ∧ perform i { s with inputs := rest } = .next t) := by
  unfold step machineStep at h
  split at h
  · refine ⟨‹_›, ?_⟩
    unfold takeInput at h
    split at h
    · exact .inl ⟨‹_›, by simpa using h.symm⟩
    · exact .inr ⟨_, _, ‹_›, h⟩
  · cases h

end Sys2Proof.Machine
end

