-- ==== Sys2Proof/Laws/PerInstr.lean ====
section
/-! SUPPORT. Facts about every instruction, one lemma per constructor: its encoding has the fixed
bits of its row of the opcode table (30_encoding.md R77). -/

namespace Sys2Proof.Laws

/-- The mask of the instruction's row: its opcode and its must-be-zero fields (R77, R80). -/
def rowMask : Instr → Word
  | .readReg _ => 0xFFFF00FF
  | .writeReg _ _ => 0xFF0000FF
  | .rmw _ _ _ => 0x000000FF
  | .setField _ _ => 0xFF00FF0F
  | .burstRead _ _ => 0xFF0000FF
  | .readAxes => 0xFFFFFFFF

/-- The value of the row's fixed bits: the opcode, and zeros (R77). -/
def rowMatch : Instr → Word
  | .readReg _ => 0x00000001
  | .writeReg _ _ => 0x00000002
  | .rmw _ _ _ => 0x00000003
  | .setField _ _ => 0x00000004
  | .burstRead _ _ => 0x00000005
  | .readAxes => 0x00000006

/-- The encoding of an instruction has the fixed bits of its row. -/
def TableRow.Statement (i : Instr) : Prop := encode i &&& rowMask i = rowMatch i

theorem TableRow.readReg (a : Byte) : TableRow.Statement (.readReg a) := by
  revert a; unfold TableRow.Statement; decide

theorem TableRow.writeReg (a b : Byte) : TableRow.Statement (.writeReg a b) := by
  simp only [TableRow.Statement, encode, rowMask, rowMatch]
  ext k hk; interval_cases k <;> simp [packWord_getElem]

theorem TableRow.rmw (a c d : Byte) : TableRow.Statement (.rmw a c d) := by
  simp only [TableRow.Statement, encode, rowMask, rowMatch]
  ext k hk; interval_cases k <;> simp [packWord_getElem]

theorem TableRow.setField (f : Field) (code : Byte) : TableRow.Statement (.setField f code) := by
  revert code; cases f <;> (unfold TableRow.Statement; decide)

theorem TableRow.burstRead (a n : Byte) : TableRow.Statement (.burstRead a n) := by
  simp only [TableRow.Statement, encode, rowMask, rowMatch]
  ext k hk; interval_cases k <;> simp [packWord_getElem]

theorem TableRow.readAxes : TableRow.Statement .readAxes := by
  unfold TableRow.Statement; decide

end Sys2Proof.Laws
end

