-- ==== Sys2Proof/Laws/Runs.lean ====
section
/-! SUPPORT. Runs of several steps: a run is the host's run, runs join, and an answer at the head of
the inputs is one step. -/

namespace Sys2Proof.Machine

/-- `runSteps` is the host's own run of the machine. -/
theorem runSteps_eq_core_run (n : Nat) (s : State) :
    runSteps n s = Host.Core.run Sys2Proof.core n s := by
  induction n generalizing s with
  | zero => rfl
  | succ n ih =>
    have hr := Host.Core.run.eq_2 Sys2Proof.core s n
    cases hs : step s with
    | next t =>
      rw [show Sys2Proof.core.step s = .next t from hs] at hr
      exact (show runSteps (n + 1) s = runSteps n t by simp [runSteps, hs]).trans
        ((ih t).trans hr.symm)
    | fault r => exact nomatch r
    | refused r =>
      rw [show Sys2Proof.core.step s = .refused r from hs] at hr
      exact (show runSteps (n + 1) s = .refused r by simp [runSteps, hs]).trans hr.symm

/-- A run that begins with a next state goes on from it. -/
theorem runSteps_succ_of_step {n : Nat} {s t : State} (h : step s = .next t) :
    runSteps (n + 1) s = runSteps n t := by
  simp [runSteps, h]

/-- Two runs join. -/
theorem runSteps_add {m n : Nat} {s t : State} (h : runSteps m s = .next t) :
    runSteps (m + n) s = runSteps n t := by
  induction m generalizing s with
  | zero =>
    simp only [runSteps] at h
    cases h
    simp
  | succ m ih =>
    rw [Nat.succ_add]
    cases hs : step s with
    | next u =>
      rw [runSteps_succ_of_step hs] at h ⊢
      exact ih h
    | fault r => simp [runSteps, hs] at h
    | refused r => simp [runSteps, hs] at h

/-- A step that takes an answer is that answer's effect. -/
theorem step_answer {s : State} {a : Answer} {rest : List Input} (hc : configOk s.cfg = true)
    (hi : s.inputs = .answer a :: rest) : step s = .next (answered a { s with inputs := rest }) := by
  simp [step, machineStep, hc, takeInput, hi, perform]

/-- A step that takes a CMD write is `cmdWrite`. -/
theorem step_cmdWrite {s : State} {w : Word} {rest : List Input} (hc : configOk s.cfg = true)
    (hi : s.inputs = .hostWrite 0x00 4 w :: rest) :
    step s = cmdWrite w { s with inputs := rest } := by
  simp [step, machineStep, hc, takeInput, hi, perform, inContract, memWrite]

end Sys2Proof.Machine
end

