-- ==== Sys2Proof/Tests/Slice0.lean ====
section
/-! SUPPORT. Tests. Expected values are those of 95_test_vectors.md, by vector id, or are worked out by
hand from the rule named; the witness theorems show that the hypotheses of each statement of
Certificates/Slice0/Obligations.lean can be met together. -/

namespace Sys2Proof.Tests

open Sys2Proof Sys2Proof.Machine

/-! ## Helpers -/

/-- The engine right after a successful INIT (vector I-2), with these inputs to come. -/
def idleWith (inputs : List Input) : State :=
  { State.reset with
    fsm := .idle, cs := .high, seq := .none, trace := [.pin .high .ok], inputs := inputs }

/-- The engine right after a failed INIT (vector I-3). -/
def failedWith (inputs : List Input) : State :=
  { State.reset with
    fsm := .failed, err := .pin, initFail := true, seq := .none, trace := [.pin .high .err],
    inputs := inputs }

/-- The first frame of a READ_REG of 0x0F, about to send its header. -/
def readQ : RunSeq :=
  { op := .readReg 0x0F
    frame := { pos := .exchange, out := [0x8F], nread := 1, rx := [], ok := true }
    rest := { todo := [], cleanup := [], finish := .plain } }

/-- READ_REG 0x0F after its select succeeded. -/
def runningWith (inputs : List Input) : State :=
  { idleWith inputs with
    fsm := .run, cs := .low, cmd := 0x00000F01, rcount := 1, seq := .run readQ,
    trace := [.pin .high .ok, .pin .low .ok] }

/-- The host writes a word to CMD. -/
def cmdInput (w : Word) : List Input := [.hostWrite 0x00 4 w]

/-- `n` successful answers. -/
def okays (n : Nat) : List Answer := List.replicate n (.ok 0x00)

/-- A view of the state some steps lead to. -/
def after {α : Type} (o : Host.Outcome State Fault Refusal) (view : State → α) : Option α :=
  match o with
  | .next s => some (view s)
  | .fault _ => none
  | .refused _ => none

/-- The reason of a refusal of a word. -/
def refusalOf (w : Word) : Option RejReason :=
  match decode w with
  | .ok _ => none
  | .error r => some r

/-- The instruction of a word. -/
def decoded (w : Word) : Option Instr := (decode w).toOption

/-! ## Well-formedness: each check refuses an ill-formed term -/

theorem test_wf_readReg_address : (Instr.readReg 0x10).wf = false := by decide
theorem test_wf_writeReg_address : (Instr.writeReg 0xA0 0x50).wf = false := by decide
theorem test_wf_rmw_address : (Instr.rmw 0x40 0x00 0x00).wf = false := by decide
theorem test_wf_setField_code : (Instr.setField .mode 3).wf = false := by decide
theorem test_wf_burst_count : (Instr.burstRead 0x28 0).wf = false := by decide
theorem test_wf_burst_range : (Instr.burstRead 0x3E 3).wf = false := by decide

/-! ## Decoding: words written out bit by bit, fields C B A IDX OPC (30_encoding.md R75, R77) -/

theorem test_decode_readReg :  -- E-5
    decoded 0b00000000_00000000_00001111_0000_0001 = some (.readReg 0x0F) := by decide
theorem test_decode_writeReg :  -- E-14
    decoded 0b00000000_01010000_00100000_0000_0010 = some (.writeReg 0x20 0x50) := by decide
theorem test_decode_rmw :  -- E-17
    decoded 0b00000100_00001100_00100000_0000_0011 = some (.rmw 0x20 0x0C 0x04) := by decide
theorem test_decode_setField :  -- E-19
    decoded 0b00000000_00000100_00000000_0010_0100 = some (.setField .odr 4) := by decide
theorem test_decode_burstRead :  -- E-31
    decoded 0b00000000_00000110_00101000_0000_0101 = some (.burstRead 0x28 6) := by decide
theorem test_decode_readAxes :  -- E-41
    decoded 0b00000000_00000000_00000000_0000_0110 = some .readAxes := by decide

/-- The field indices (E-20, S-2, E-22, S-5, E-24). -/
theorem test_decode_field_indices :
    [(0x00020004 : Word), 0x00030014, 0x00090024, 0x00030034, 0x00010044].map decoded =
      [some (.setField .mode 2), some (.setField .lpMode 3), some (.setField .odr 9),
        some (.setField .fs 3), some (.setField .lowNoise 1)] := by decide

/-- The edges of the address map and of the bursts (E-12, E-33, E-35, E-37). -/
theorem test_decode_edges :
    [(0x00000D01 : Word), 0x00003F01, 0x00023E05, 0x00030D05, 0x00202005].map decoded =
      [some (.readReg 0x0D), some (.readReg 0x3F), some (.burstRead 0x3E 2),
        some (.burstRead 0x0D 3), some (.burstRead 0x20 32)] := by decide

theorem test_refuse_opcode :  -- E-1 to E-4
    [(0x00000000 : Word), 0x00000007, 0x0000000F, 0xFFFFFFF8].map refusalOf =
      List.replicate 4 (some .illegalOpc) := by decide

theorem test_refuse_reserved :  -- E-6, E-13, E-15, E-18, E-28, E-29, E-42, E-43
    [(0x00010F01 : Word), 0x00011001, 0x01502002, 0x040C2013, 0x00002024, 0x00002054, 0x00000016,
      0x00000106].map refusalOf = List.replicate 8 (some .reserved) := by decide

theorem test_refuse_address :  -- E-7 to E-11, E-16, E-40
    [(0x00001001 : Word), 0x00008F01, 0x00004001, 0x00000C01, 0x00001F01, 0x0050A002,
      0x00001005].map refusalOf = List.replicate 7 (some .badAddr) := by decide

theorem test_refuse_count :  -- E-32, E-34, E-36, E-38, E-39
    [(0x00002805 : Word), 0x00033E05, 0x00020F05, 0x00212005, 0x00202105].map refusalOf =
      List.replicate 5 (some .badCount) := by decide

theorem test_refuse_field :  -- E-21, E-23, E-25, E-26, E-27
    [(0x00030004 : Word), 0x000A0024, 0x00020044, 0x00000054, 0x000400F4].map refusalOf =
      List.replicate 5 (some .badField) := by decide

/-- The table's numbering of bits is the word's own. -/
theorem test_decodeTableWord :
    decodeTableWord 32 0x040C2003 = some (.rmw 0x20 0x0C 0x04) ∧
      decodeTableWord 32 0x00000000 = none := by decide

/-! ## Assembler (30_encoding.md R87, R88) -/

theorem test_assemble_rmw :  -- R89
    assembleLine Config.testCfg "  RMW 0x20, 12,0x04 ; M-1".toList = some (.rmw 0x20 0x0C 0x04) := by
  decide
theorem test_assemble_field_name :  -- R89
    assembleLine Config.testCfg "SET_FIELD ODR, 4".toList = some (.setField .odr 4) := by decide
theorem test_assemble_pseudo :  -- P-2 step 5
    assembleLine Config.testCfg "CLR_BITS 0x20, 0xF0".toList = some (.rmw 0x20 0xF0 0x00) := by decide
theorem test_assemble_rejects_large_operand :
    assembleLine Config.testCfg "READ_REG 256".toList = none := by decide

/-! ## INIT, acceptance and refusal, one step each -/

theorem test_status_reset : statusWord State.reset = 0x00002001 := by decide  -- I-1
theorem test_status_init_ok :  -- I-2
    after (step { State.reset with inputs := [.answer (.ok 0)] }) statusWord = some 0x00001000 := by
  decide
theorem test_status_init_failed :  -- I-3
    after (step { State.reset with inputs := [.answer .err] }) statusWord = some 0x00002808 := by
  decide
theorem test_busy_in_init :  -- E-45
    after (step { State.reset with inputs := cmdInput 0x00000F01 }) statusWord = some 0x00002681 := by
  decide
theorem test_refused_when_failed :  -- E-46
    [(0x00000F01 : Word), 0x00000000].map (fun w => after (step (failedWith (cmdInput w))) statusWord) =
      [some 0x00002F88, some 0x00002F88] := by decide
theorem test_status_after_refusal :  -- E-26
    after (step (idleWith (cmdInput 0x00000054))) statusWord = some 0x00001580 := by decide
theorem test_accept_clears_reject :  -- E-47
    after (step { idleWith (cmdInput 0x00000F01) with reject := true, rejReason := .badField })
      (fun s => (s.reject, s.rejReason, s.fsm, s.rcount)) = some (false, .none, .run, 1) := by decide

/-! ## Commands: the last of several answers ends the command; vectors of 95_test_vectors.md -/

theorem test_readReg :  -- R-1
    after (runSteps 5 (idleWith (cmdInput 0x00000F01 ++ answerInputs (okAnswers [0, 0, 0x44, 0]))))
      (fun s => (statusWord s, s.rdata[0])) = some (0x00011042, 0x44) := by decide
theorem test_readReg_two_failures :  -- R-3
    after (runSteps 4 (idleWith (cmdInput 0x00000F01 ++ answerInputs [.ok 0, .err, .err])))
      (fun s => (statusWord s, s.trace.drop 1)) =
        some (0x0001201A, [.pin .low .ok, .xfer 0x8F .err, .pin .high .err]) := by decide
theorem test_writeReg :  -- W-1
    after (runSteps 5 (idleWith (cmdInput 0x00502002 ++ answerInputs (okays 4))))
      (fun s => (statusWord s, s.trace.drop 2)) =
        some (0x00001042, [.xfer 0x20 (.ok 0), .xfer 0x50 (.ok 0), .pin .high .ok]) := by decide
theorem test_writeReg_header_fails :  -- W-2
    after (runSteps 4 (idleWith (cmdInput 0x00502002 ++ answerInputs [.ok 0, .err, .ok 0])))
      (fun s => (statusWord s, s.trace.drop 2)) =
        some (0x00001006, [.xfer 0x20 .err, .pin .high .ok]) := by decide
theorem test_rmw :  -- M-1
    after (runSteps 9 (idleWith (cmdInput 0x040C2003 ++
        answerInputs (okAnswers [0, 0, 0x53, 0, 0, 0, 0, 0]))))
      (fun s => (statusWord s, s.rdata[0], s.rdata[1])) = some (0x00021042, 0x53, 0x57) := by decide
theorem test_rmw_read_deselect_fails :  -- M-11
    after (runSteps 5 (idleWith (cmdInput 0x040C2003 ++ answerInputs [.ok 0, .ok 0, .ok 0x53, .err])))
      (fun s => (statusWord s, s.seq)) = some (0x0002200A, .none) := by decide
theorem test_setField :  -- S-7
    after (runSteps 9 (idleWith (cmdInput 0x00020004 ++
        answerInputs (okAnswers [0, 0, 0xFF, 0, 0, 0, 0, 0]))))
      (fun s => (statusWord s, s.rdata[0], s.rdata[1])) = some (0x00021042, 0xFF, 0xFB) := by decide
theorem test_burst_cleanup_after_failed_select :  -- B-4
    after (runSteps 11 (idleWith (cmdInput 0x00062805 ++ answerInputs (.err :: okays 9))))
      (fun s => (statusWord s, s.trace.length)) = some (0x0006100A, 11) := by decide
theorem test_axis_samples :  -- A-1, A-3
    ((axisSample 0x10 0x00).toInt, (axisSample 0x00 0x80).toInt, (axisSample 0xFF 0xFF).toInt,
      (axisSample 0xCC 0xFE).toInt) = (16, -32768, -1, -308) := by decide

/-- The field table of R141: TEST_CFG passes; the single-register layout and a clash with AI_REG do
not. -/
theorem test_configOk :
    configOk Config.testCfg = true ∧ configOk { Config.testCfg with cfgRegB := 0x20 } = false ∧
      configOk { Config.testCfg with cfgRegA := 0x21 } = false ∧
      configOk { Config.testCfg with xlAddr := 0x3B } = false := by decide

theorem test_hostOffset :  -- 20_memory.md R52
    hostOffset { Config.testCfg with hostBase := 0x1000 } 0x1004 = some 0x04 ∧
      hostOffset { Config.testCfg with hostBase := 0x1000 } 0x1040 = none := by decide

/-- A word placed in the reset state runs as the next step (log 3). -/
theorem test_placed_word_runs :
    after (step (State.reset.withFetchWord 32 0x00062805)) (fun s => (s.fsm, s.cmd, s.rcount)) =
      some (.run, 0x00062805, 6) := by decide

/-! ## Witnesses: the hypotheses of the statements can be met -/

theorem witness_DecodeOfEncode :
    [Instr.readReg 0x0D, .writeReg 0x3F 0xFF, .rmw 0x20 0xFF 0xFF, .setField .odr 9,
      .burstRead 0x20 32, .readAxes].all Instr.wf = true := by decide

theorem witness_EncodeOfDecode : decoded 0x00202005 = some (.burstRead 0x20 32) := by decide

/-- What most statements about one step assume of the state. -/
theorem witness_IllegalOpcodeRefused :
    let s := idleWith (cmdInput 0x00000007)
    configOk s.cfg = true ∧ s.fsm = .idle ∧ s.inputs = .hostWrite 0x00 4 0x00000007 :: [] ∧
      7 ≤ ((0x00000007 : Word).extractLsb' 0 4).toNat := by decide

theorem witness_IllegalOpcodeRefused_zero :
    let s := idleWith (cmdInput 0x00000000)
    configOk s.cfg = true ∧ s.fsm = .idle ∧ s.inputs = .hostWrite 0x00 4 0x00000000 :: [] ∧
      ((0x00000000 : Word).extractLsb' 0 4).toNat = 0 := by decide

/-- One word for each of the six opcodes; `idleWith (cmdInput w)` is the state. -/
theorem witness_ReservedFieldRefused :
    let s := idleWith (cmdInput 0x00010F01)
    configOk s.cfg = true ∧ s.fsm = .idle ∧ s.inputs = .hostWrite 0x00 4 0x00010F01 :: [] ∧
      [((0x00010F01 : Word), (1 : Word), (0xFFFF00F0 : Word)), (0x01502002, 2, 0xFF0000F0),
        (0x040C2013, 3, 0x000000F0), (0x00002024, 4, 0xFF00FF00), (0x01062805, 5, 0xFF0000F0),
        (0x00000016, 6, 0xFFFFFFF0)].all
          (fun x => decide (x.1 &&& 0xF = x.2.1) && decide (x.1 &&& x.2.2 ≠ 0)) = true := by decide

/-- The addresses next to the map's edges, for each of the four opcodes. -/
theorem witness_AddressOutsideMapRefused :
    let s := idleWith (cmdInput 0x00001001)
    configOk s.cfg = true ∧ s.fsm = .idle ∧ s.inputs = .hostWrite 0x00 4 0x00001001 :: [] ∧
      (0x00001001 : Word) &&& 0xFFFF00FF = 1 ∧ (0x00501F02 : Word) &&& 0xFF0000FF = 2 ∧
      (0x040C4003 : Word) &&& 0x000000FF = 3 ∧ (0x00010C05 : Word) &&& 0xFF0000FF = 5 ∧
      [(0x10 : Nat), 0x1F, 0x40, 0x0C].all
        (fun a => !decide ((0x0D ≤ a ∧ a ≤ 0x0F) ∨ (0x20 ≤ a ∧ a ≤ 0x3F))) = true ∧
      0x80 ≤ (0x80 : Byte).toNat := by decide

/-- The longest admitted ranges, and a refused word with a valid address. -/
theorem witness_BurstRangeChecked :
    rangeOk 0x0D 3 = true ∧ rangeOk 0x20 32 = true ∧ rangeOk 0x0F 2 = false ∧
      rangeOk 0x3E 3 = false ∧ rangeOk 0x28 0 = false ∧
      let s := idleWith (cmdInput 0x00033E05)
      configOk s.cfg = true ∧ s.fsm = .idle ∧ s.inputs = .hostWrite 0x00 4 0x00033E05 :: [] ∧
        (0x00033E05 : Word) &&& 0xFF0000FF = 5 ∧ validAddr ((0x00033E05 : Word).extractLsb' 8 8) = true ∧
        rangeOk ((0x00033E05 : Word).extractLsb' 8 8) ((0x00033E05 : Word).extractLsb' 16 8) = false := by
  decide

/-- The smallest refused code of each field, and the smallest refused index. -/
theorem witness_FieldOutsideTableRefused :
    let s := idleWith (cmdInput 0x00030004)
    configOk s.cfg = true ∧ s.fsm = .idle ∧ s.inputs = .hostWrite 0x00 4 0x00030004 :: [] ∧
      [(0x00030004 : Word), 0x00040014, 0x000A0024, 0x00040034, 0x00020044, 0x00000054].all (fun w =>
        decide (w &&& 0xFF00FF0F = 4) &&
          decide ([3, 4, 10, 4, 2].getD (w.extractLsb' 4 4).toNat 0 ≤ (w.extractLsb' 16 8).toNat)) =
        true := by decide

theorem witness_StepRunsDecodedCommand :
    let s := runningWith (cmdInput 0x00502002)
    configOk s.cfg = true ∧ s.inputs = .hostWrite 0x00 4 0x00502002 :: [] ∧
      decoded 0x00502002 = some (.writeReg 0x20 0x50) := by decide

theorem witness_PlacedWordRunsNext :
    let s := idleWith []
    configOk s.cfg = true ∧ s.fsm = .idle ∧ (Instr.setField .lowNoise 1).wf = true := by decide

theorem witness_AcceptanceBeginsTheCommand : (idleWith []).fsm = .idle := by decide

theorem witness_CommandsTurnedAwayOutsideIdle :
    State.reset.fsm = .init ∧ (runningWith []).fsm = .run ∧ (failedWith []).fsm = .failed := by decide

theorem witness_BusyRefusesEveryWord :
    let s := runningWith (cmdInput 0x00000000)
    configOk s.cfg = true ∧ (s.fsm = .init ∨ s.fsm = .run) ∧
      s.inputs = .hostWrite 0x00 4 0x00000000 :: [] := by decide

theorem witness_FailedUntilReset_drive :
    let s := { State.reset with inputs := [.answer .err] }
    configOk s.cfg = true ∧ s.seq = .init ∧ s.inputs = .answer .err :: [] := by decide

theorem witness_FailedUntilReset_refusal :
    let s := failedWith (cmdInput 0x00000006)
    configOk s.cfg = true ∧ s.fsm = .failed ∧ s.inputs = .hostWrite 0x00 4 0x00000006 :: [] := by decide

theorem witness_FailedUntilReset_absorbing :
    let s := failedWith (cmdInput 0x00000006)
    Consistent s = true ∧ s.fsm = .failed ∧ s.inputs = .hostWrite 0x00 4 0x00000006 :: [] ∧
      (after (step s) State.fsm).isSome = true := by decide

theorem witness_FailedUntilReset_reset :
    let s := failedWith [.reset]
    Consistent s = true ∧ s.fsm = .failed ∧ s.inputs = .reset :: [] ∧
      after (step s) State.fsm = some .init := by decide

theorem witness_ResetAtAnyTime :
    let s := runningWith [.reset]
    configOk s.cfg = true ∧ s.inputs = .reset :: [] := by decide

theorem witness_ResetDiscardsTheCommand :
    let s := runningWith [.reset, .lateAnswer .err, .answer (.ok 0)]
    configOk s.cfg = true ∧ s.seq = .run readQ ∧
      s.inputs = .reset :: .lateAnswer .err :: .answer (.ok 0) :: [] := by decide

theorem witness_InitOutcome : configOk Config.testCfg = true := by decide

theorem witness_ConfigurationNeverChanges :
    (after (step (runningWith [.answer .err])) State.cfg).isSome = true := by decide

theorem witness_IllFormedConfigurationHasNoRun :
    paramsOk { Config.testCfg with aiReg := 0x10 } = false ∧
      fieldTableOk { Config.testCfg with cfgRegB := 0x20 } = false := by decide

theorem witness_FieldTableFollowsFromParameters :
    paramsOk Config.testCfg = true ∧
      (let cfg := { Config.testCfg with cfgRegB := 0x20 }
       cfg.cfgRegA = cfg.cfgRegB) := by decide

/-- One state for each request and each answer. -/
theorem witness_AnswerPerformsTheRequest :
    (let s := runningWith [.answer .err]
     configOk s.cfg = true ∧ s.inputs = .answer .err :: [] ∧ request s = some (.xfer 0x8F)) ∧
    (let s := { runningWith [.answer (.ok 0)] with
        cs := .high, seq := .run { readQ with frame := { readQ.frame with pos := .select } } }
     configOk s.cfg = true ∧ s.inputs = .answer (.ok 0) :: [] ∧ request s = some (.pinDrive .low)) ∧
    (let s := { State.reset with inputs := [.answer .err] }
     configOk s.cfg = true ∧ s.inputs = .answer .err :: [] ∧ request s = some (.pinDrive .high)) := by
  decide

theorem witness_OnlyAnswersTouchTheLine :
    let s := runningWith [.hostRead 0x04 4]
    s.inputs = .hostRead 0x04 4 :: [] ∧ (after (step s) State.cs).isSome = true ∧
      (Input.hostRead 0x04 4) ≠ .reset := by decide

theorem witness_UnansweredEngineStays :
    configOk State.reset.cfg = true ∧ State.reset.inputs = [] := by decide

theorem witness_ExchangeOnlyWhileSelected :
    Consistent (runningWith []) = true ∧ request (runningWith []) = some (.xfer 0x8F) := by decide

theorem witness_SentByteResponseDiscarded :
    (runningWith []).seq = .run readQ ∧ readQ.frame.pos = .exchange ∧
      readQ.frame.out = 0x8F :: [] := by decide

/-- What the statements about a whole command assume, together: an idle engine and 51 answers, here one
failure and 50 successes; each command's operand at an edge of its range. The statements are ReadRegTrace,
WriteRegTrace, RmwTrace, SetFieldTrace, BurstTrace, EveryCommandEndsDeselected,
EveryCommandCompletesIn51, LastTwoFailuresReported, CommandsKeepTheRest and
WorkingRegistersNotReused. -/
theorem witness_whole_commands :
    let answers := .err :: okays 50
    let s := idleWith (answerInputs answers)
    configOk s.cfg = true ∧ s.fsm = .idle ∧ answers.length = 51 ∧ s.inputs = answerInputs answers ∧
      validAddr 0x0D = true ∧ validAddr 0x3F = true ∧ codeOk .mode 2 = true ∧
      codeOk .lowNoise 1 = true ∧ rangeOk 0x20 32 = true ∧ (Instr.burstRead 0x20 32).wf = true := by
  decide

theorem witness_EveryCommandCompletesIn51_longest :
    let data := List.replicate 50 (0x00 : Byte)
    let s := idleWith (answerInputs (okAnswers data))
    configOk s.cfg = true ∧ s.fsm = .idle ∧ data.length = 50 ∧
      s.inputs = answerInputs (okAnswers data) := by decide

theorem witness_SequencerRefinesPseudocode :
    let answers := [Answer.ok 0, .ok 0, .ok 0x44, .err, .ok 0]
    let s := idleWith (answerInputs answers ++ [.hostRead 0x04 4])
    configOk s.cfg = true ∧ s.fsm = .idle ∧ (Instr.readReg 0x0F).wf = true ∧
      s.inputs = answerInputs answers ++ [.hostRead 0x04 4] ∧
      (runCommand (.readReg 0x0F) s answers).isSome = true := by decide

theorem witness_CommandsKeepTheRest_index : (1 : BitVec 6).toNat ≤ (31 : Fin 32).val := by decide

/-- What ReadRegReturnsTheByte and WriteRegSendsTheByte assume. -/
theorem witness_ReadReg_and_WriteReg_results :
    let s := idleWith (answerInputs (okAnswers [0, 0, 0x44, 0]) ++ [.reset])
    configOk s.cfg = true ∧ s.fsm = .idle ∧
      s.inputs = answerInputs (okAnswers [0, 0, 0x44, 0]) ++ [.reset] := by decide

/-- What RmwWritesTheModifiedByte and SetFieldWritesTheCode assume. -/
theorem witness_Rmw_and_SetField_results :
    let s := idleWith (answerInputs (okAnswers [0, 0, 0x53, 0, 0, 0, 0, 0]) ++ [.reset])
    configOk s.cfg = true ∧ s.fsm = .idle ∧ codeOk .odr 9 = true ∧
      s.inputs = answerInputs (okAnswers [0, 0, 0x53, 0, 0, 0, 0, 0]) ++ [.reset] := by decide

theorem witness_BurstReadReturnsTheBytes :
    let data : List Byte := List.replicate 32 0xA5
    let s := idleWith (answerInputs (okAnswers ([0, 0, 0, 0, 0, 0, 0, 0, 0, 0] ++ data ++
      [0, 0, 0, 0, 0, 0, 0, 0, 0])) ++ [])
    configOk s.cfg = true ∧ s.fsm = .idle ∧ rangeOk 0x20 32 = true ∧
      data.length = (32 : Byte).toNat ∧
      s.inputs = answerInputs (okAnswers ([0, 0, 0, 0, 0, 0, 0, 0, 0, 0] ++ data ++
        [0, 0, 0, 0, 0, 0, 0, 0, 0])) ++ [] := by decide

theorem witness_ReadAxesReassemblesTheSamples :
    let data : List Byte := [0, 0, 0, 0, 0, 0, 0, 0, 0, 0, 0x10, 0x00, 0x00, 0x80, 0xFF, 0xFF, 0, 0, 0,
      4, 0, 0, 0, 0, 0]
    let s := idleWith (answerInputs (okAnswers data) ++ [])
    configOk s.cfg = true ∧ s.fsm = .idle ∧ s.inputs = answerInputs (okAnswers data) ++ [] := by decide

theorem witness_ModifyBitByBit : (7 : Nat) < 8 := by decide

theorem witness_IsolationAndIdempotence : codeOk .odr 9 = true ∧ codeOk .mode 0 = true := by decide

theorem witness_StatusWordFields :
    (let s := runningWith [.hostRead 0x04 4]
     configOk s.cfg = true ∧ s.inputs = .hostRead 0x04 4 :: []) ∧
    let s := idleWith [.hostWrite 0x04 4 0xFFFFFFFF]
    configOk s.cfg = true ∧ s.inputs = .hostWrite 0x04 4 0xFFFFFFFF :: [] := by decide

theorem witness_ConstantRegistersRead :
    [(0x00 : Nat), 0x10].all (fun off =>
      let s := failedWith [.hostRead off 4]
      configOk s.cfg && decide (s.inputs = .hostRead off 4 :: [])) = true := by decide

theorem witness_ResultRegistersRead :
    [(0x08 : Nat), 0x0C, 0x20 + 4 * (0 : Fin 8).val, 0x20 + 4 * (7 : Fin 8).val].all (fun off =>
      let s := idleWith [.hostRead off 4]
      configOk s.cfg && decide (s.fsm = .idle) && decide (s.inputs = .hostRead off 4 :: [])) = true := by
  decide

theorem witness_ResultReadsWhileBusyComplete :
    [(0x08 : Nat), 0x0C, 0x20, 0x3C].all (fun off =>
      let s := runningWith [.hostRead off 4]
      configOk s.cfg && decide (s.fsm = .run) && decide (off % 4 = 0) && decide (off < 0x40) &&
        decide (s.inputs = .hostRead off 4 :: [])) = true := by decide

theorem witness_ReservedReadsAndOtherWrites_read :
    [(0x14 : Nat), 0x18, 0x1C].all (fun off =>
      let s := runningWith [.hostRead off 4]
      configOk s.cfg && decide (s.inputs = .hostRead off 4 :: [])) = true := by decide

theorem witness_ReservedReadsAndOtherWrites_write :
    [(1 : Fin 16), 15].all (fun k =>
      let s := runningWith [.hostWrite (4 * k.val) 4 0xFFFFFFFF]
      configOk s.cfg && decide (k ≠ 0) &&
        decide (s.inputs = .hostWrite (4 * k.val) 4 0xFFFFFFFF :: [])) = true := by decide

/-- Each way out of the contract, at its nearest access. -/
theorem witness_AccessOutsideContractRefused :
    (let s := idleWith [.hostRead 0x04 2]
     configOk s.cfg = true ∧ (2 : Nat) ≠ 4 ∧ s.inputs = .hostRead 0x04 2 :: []) ∧
    (let s := idleWith [.hostWrite 0x01 4 0x00000006]
     configOk s.cfg = true ∧ 0x01 % 4 ≠ 0 ∧ s.inputs = .hostWrite 0x01 4 0x00000006 :: []) ∧
    (let s := idleWith [.hostRead 0x40 4]
     configOk s.cfg = true ∧ 0x40 ≤ 0x40 ∧ s.inputs = .hostRead 0x40 4 :: []) := by decide

theorem witness_InvariantAtReset :
    configOk { Config.testCfg with aiReg := 0x3F, xlAddr := 0x3A, cfgRegB := 0x0D } = true := by decide

theorem witness_InvariantKept :
    let s := runningWith [.answer .err]
    Consistent s = true ∧ (after (step s) State.err) = some .transport := by decide

end Sys2Proof.Tests
end

section
/-! SUPPORT. No operation writes the configuration (10_state.md R41): one lemma per operation, each from
the lemma that says what the operation can do. -/

namespace Sys2Proof.Machine

@[simp] theorem complete_cfg (fin : Finish) (s : State) : (complete fin s).cfg = s.cfg :=
  (complete_frame fin s).1

@[simp] theorem enterNext_cfg (sc : Script) (s : State) : (enterNext sc s).cfg = s.cfg := by
  obtain ⟨op, todo, -, h⟩ | ⟨op, cleanup, -, -, h⟩ | ⟨-, -, h⟩ := enterNext_cases sc s
  · rw [h, enterFrame_cfg]
  · rw [h, enterFrame_cfg]
  · rw [h, complete_cfg]

@[simp] theorem begin_cfg (w : Word) (n : BitVec 6) (sc : Script) (s : State) :
    (begin w n sc s).cfg = s.cfg := enterNext_cfg sc _

@[simp] theorem accept_cfg (w : Word) (n : BitVec 6) (sc : Script) (s : State) :
    (accept w n sc s).cfg = s.cfg := by
  obtain ⟨-, h⟩ | ⟨r, -, h⟩ := accept_cases w n sc s
  · rw [h, begin_cfg]
  · rw [h, refuse_cfg]

@[simp] theorem refuseWord_cfg (reason : RejReason) (s : State) :
    (refuseWord reason s).cfg = s.cfg := by
  obtain ⟨-, h⟩ | ⟨r, -, h⟩ := refuseWord_cases reason s <;> rw [h, refuse_cfg]

@[simp] theorem clearAxisValid_cfg (s : State) : (clearAxisValid s).cfg = s.cfg := rfl

@[simp] theorem applyFrame_cfg (op : FrameOp) (ok : Bool) (rx : List Byte) (s : State) :
    (applyFrame op ok rx s).cfg = s.cfg := by
  obtain ⟨c, n, v, h⟩ := applyFrame_frame op ok rx s
  rw [h]

@[simp] theorem endFrame_cfg (q : RunSeq) (s : State) : (endFrame q s).cfg = s.cfg := by
  rw [endFrame, enterNext_cfg, applyFrame_cfg]

@[simp] theorem initAnswered_cfg (r : PinResp) (s : State) : (initAnswered r s).cfg = s.cfg := by
  cases r <;> rfl

@[simp] theorem selectAnswered_cfg (q : RunSeq) (r : PinResp) (s : State) :
    (selectAnswered q r s).cfg = s.cfg := by
  cases r <;> rfl

@[simp] theorem exchangeAnswered_cfg (q : RunSeq) (r : XferResp) (s : State) :
    (exchangeAnswered q r s).cfg = s.cfg := by
  cases r <;> rfl

@[simp] theorem deselectAnswered_cfg (q : RunSeq) (r : PinResp) (s : State) :
    (deselectAnswered q r s).cfg = s.cfg := by
  cases r <;> simp [deselectAnswered]

@[simp] theorem answered_cfg (a : Answer) (s : State) : (answered a s).cfg = s.cfg := by
  obtain ⟨-, h⟩ | ⟨-, h⟩ | ⟨q, -, ⟨-, h⟩ | ⟨-, h⟩ | ⟨-, h⟩⟩ := answered_cases a s
  · rw [h]
  · rw [h, initAnswered_cfg]
  · rw [h, selectAnswered_cfg]
  · rw [h, exchangeAnswered_cfg]
  · rw [h, deselectAnswered_cfg]

/-- No command changes the configuration, accepted or turned away. -/
theorem exec_cfg {i : Instr} {s t : State} (h : exec i s = .next t) : t.cfg = s.cfg := by
  rw [exec_eq_accept] at h
  cases h
  rw [accept_cfg]
  split
  · rw [clearAxisValid_cfg]
  · rfl

/-- No word written to CMD changes the configuration. -/
theorem cmdWrite_cfg {w : Word} {s t : State} (h : cmdWrite w s = .next t) : t.cfg = s.cfg := by
  obtain ⟨i, -, hw⟩ | ⟨r, -, hw⟩ := cmdWrite_cases w s
  · exact exec_cfg (hw ▸ h)
  · cases hw.symm.trans h
    exact refuseWord_cfg r s

/-- No act of the outside world changes the configuration. -/
theorem perform_cfg {i : Input} {s t : State} (h : perform i s = .next t) : t.cfg = s.cfg := by
  obtain ⟨-, rfl⟩ | ⟨off, width, -, -, rfl⟩ | ⟨off, width, v, -, -, ⟨-, hw⟩ | ⟨-, rfl⟩⟩ |
    ⟨a, -, rfl⟩ | ⟨a, -, rfl⟩ := perform_cases i s t h
  · exact assertReset_cfg s
  · exact memRead_cfg s off
  · exact cmdWrite_cfg hw
  · rfl
  · exact answered_cfg a s
  · rfl

end Sys2Proof.Machine
end

section
/-! SUPPORT. The host register port: what a step does that takes a read, or a write to another register
than CMD, and what the registers without a side effect read as (10_state.md R34, R38). -/

namespace Sys2Proof.Machine

/-- A 32-bit access is inside the contract exactly at the aligned offsets of the window
(20_memory.md R57). -/
theorem inContract_word_iff (off : Nat) : inContract off 4 = true ↔ off % 4 = 0 ∧ off < 0x40 := by
  simp [inContract]

/-- A step that takes a host read inside the contract is `memRead`. -/
theorem step_hostRead {s : State} {off : Nat} {rest : List Input} (hc : configOk s.cfg = true)
    (hin : inContract off 4 = true) (hi : s.inputs = .hostRead off 4 :: rest) :
    step s = .next (memRead off { s with inputs := rest }) := by
  simp [step, machineStep, hc, takeInput, hi, perform, hin]

/-- A step that takes a host write inside the contract to another register than CMD takes the input
and does nothing else (10_state.md R38). -/
theorem step_hostWrite_of_ne_zero {s : State} {off : Nat} {v : Word} {rest : List Input}
    (hc : configOk s.cfg = true) (hin : inContract off 4 = true) (h0 : off ≠ 0)
    (hi : s.inputs = .hostWrite off 4 v :: rest) :
    step s = .next { s with inputs := rest } := by
  simp [step, machineStep, hc, takeInput, hi, perform, hin, memWrite, h0]

/-- A read of a register that holds no result draws no free value, in any mode: it answers the
register's content and changes nothing of the engine. -/
theorem memRead_of_not_isResult {off : Nat} (s : State) (h : isResult off = false) :
    memRead off s = { s with hostRead := some (registerAt off s) } := by
  have hfree : readsFree off s = false := by simp [readsFree, h]
  simp [memRead, readData, hfree]

/-- A host read of a register that holds no result, as one step. -/
theorem step_hostRead_of_not_isResult {s : State} {off : Nat} {rest : List Input}
    (hc : configOk s.cfg = true) (hin : inContract off 4 = true) (hr : isResult off = false)
    (hi : s.inputs = .hostRead off 4 :: rest) :
    step s = .next { s with
      inputs := rest, hostRead := some (registerAt off { s with inputs := rest }) } := by
  rw [step_hostRead hc hin hi, memRead_of_not_isResult _ hr]

/-- The offsets between ID_CONST and RDATA0 read as zero (10_state.md R38). -/
theorem registerAt_reserved {off : Nat} (s : State) (hlo : 0x10 < off) (hhi : off < 0x20) :
    registerAt off s = 0 := by
  simp only [registerAt, hhi, if_true]
  repeat rw [if_neg (by omega)]

end Sys2Proof.Machine
end

section
/-! SUPPORT. The STATUS word field by field (10_state.md R34). -/

namespace Sys2Proof.Machine

/-- Each bit of the STATUS word, by the field it lies in. -/
theorem statusWord_getLsbD (s : State) (k : Nat) :
    (statusWord s).getLsbD k =
      if k = 0 then busy s else if k = 1 then s.done
      else if k < 4 then s.err.code.getLsbD (k - 2)
      else if k < 6 then s.prev.code.getLsbD (k - 4)
      else if k = 6 then s.valid else if k = 7 then s.reject
      else if k < 11 then (rejCode s.rejReason).getLsbD (k - 8)
      else if k = 11 then s.initFail
      else if k < 14 then s.cs.code.getLsbD (k - 12)
      else if k = 14 then s.axisValid else if k = 15 then false
      else if k < 22 then s.rcount.getLsbD (k - 16) else false := by
  show ((0 : BitVec 10) ++ s.rcount ++ (0 : BitVec 1) ++ statusBit s.axisValid ++ s.cs.code ++
    statusBit s.initFail ++ rejCode s.rejReason ++ statusBit s.reject ++ statusBit s.valid ++
    s.prev.code ++ s.err.code ++ statusBit s.done ++ statusBit (busy s)).getLsbD k = _
  simp only [BitVec.getLsbD_append, statusBit, BitVec.getLsbD_ofBool]
  rcases Nat.lt_or_ge k 32 with hk | hk
  · interval_cases k <;> simp
  · obtain ⟨j, rfl⟩ := Nat.exists_eq_add_of_le' hk
    simp

theorem statusWord_busy (s : State) : (statusWord s).getLsbD 0 = busy s :=
  statusWord_getLsbD s 0

theorem statusWord_done (s : State) : (statusWord s).getLsbD 1 = s.done :=
  statusWord_getLsbD s 1

@[simp] theorem statusWord_err (s : State) :
    (statusWord s).extractLsb' 2 2 = s.err.code := by
  ext k hk
  rw [BitVec.getElem_extractLsb', statusWord_getLsbD]
  interval_cases k <;> simp

@[simp] theorem statusWord_prev (s : State) :
    (statusWord s).extractLsb' 4 2 = s.prev.code := by
  ext k hk
  rw [BitVec.getElem_extractLsb', statusWord_getLsbD]
  interval_cases k <;> simp

theorem statusWord_valid (s : State) : (statusWord s).getLsbD 6 = s.valid :=
  statusWord_getLsbD s 6

theorem statusWord_reject (s : State) : (statusWord s).getLsbD 7 = s.reject :=
  statusWord_getLsbD s 7

@[simp] theorem statusWord_rejReason (s : State) :
    (statusWord s).extractLsb' 8 3 = rejCode s.rejReason := by
  ext k hk
  rw [BitVec.getElem_extractLsb', statusWord_getLsbD]
  interval_cases k <;> simp

theorem statusWord_initFail (s : State) : (statusWord s).getLsbD 11 = s.initFail :=
  statusWord_getLsbD s 11

@[simp] theorem statusWord_cs (s : State) :
    (statusWord s).extractLsb' 12 2 = s.cs.code := by
  ext k hk
  rw [BitVec.getElem_extractLsb', statusWord_getLsbD]
  interval_cases k <;> simp

theorem statusWord_axisValid (s : State) : (statusWord s).getLsbD 14 = s.axisValid :=
  statusWord_getLsbD s 14

theorem statusWord_reserved_bit (s : State) : (statusWord s).getLsbD 15 = false :=
  statusWord_getLsbD s 15

@[simp] theorem statusWord_rcount (s : State) : (statusWord s).extractLsb' 16 6 = s.rcount := by
  ext k hk
  rw [BitVec.getElem_extractLsb', statusWord_getLsbD]
  interval_cases k <;> simp

@[simp] theorem statusWord_reserved_high (s : State) : (statusWord s).extractLsb' 22 10 = 0 := by
  ext k hk
  rw [BitVec.getElem_extractLsb', statusWord_getLsbD]
  interval_cases k <;> simp

/-- The STATUS word right after reset: it does not depend on the configuration. -/
theorem statusWord_resetOf (cfg : Config) : statusWord (State.resetOf cfg) = 0x00002001 := by
  show statusWord State.reset = 0x00002001
  decide

/-- No error has the reserved code 11. -/
theorem ErrCode.code_ne_three (e : ErrCode) : e.code ≠ 3 := by
  cases e <;> decide

/-- No knowledge of the line has the reserved code 11. -/
theorem CsLevel.code_ne_three (c : CsLevel) : c.code ≠ 3 := by
  cases c <;> decide

/-- A host read of STATUS, as one step: in every mode it answers the STATUS word. -/
theorem step_hostRead_status {s : State} {rest : List Input} (hc : configOk s.cfg = true)
    (hi : s.inputs = .hostRead 0x04 4 :: rest) :
    step s = .next { s with inputs := rest, hostRead := some (statusWord s) } :=
  step_hostRead_of_not_isResult hc rfl rfl hi

end Sys2Proof.Machine
end

section
/-! The obligations on reset, the configuration and the registers without a side effect. -/

namespace Sys2Proof.Machine

/-- Settles O20: a step does nothing or takes one input, and no input changes the configuration. -/
theorem configurationNeverChanges : Obligations.ConfigurationNeverChanges := by
  intro s t h
  obtain ⟨-, ⟨-, rfl⟩ | ⟨i, rest, -, hp⟩⟩ := step_cases s t h
  · rfl
  · exact (perform_cfg hp :)

/-- Settles O48: the word read is `statusWord`, whose fields the lemmas above give. -/
theorem statusWordFields : Obligations.StatusWordFields := by
  refine ⟨fun s rest hc hi => ⟨statusWord s, step_hostRead_status hc hi, ?_⟩,
    fun s v rest hc hi => step_hostWrite_of_ne_zero hc rfl (by decide) hi, statusWord_resetOf⟩
  refine ⟨?_, statusWord_done s, ?_, ?_, statusWord_valid s, statusWord_reject s, ?_,
    statusWord_initFail s, ?_, statusWord_axisValid s, statusWord_reserved_bit s,
    statusWord_rcount s, statusWord_reserved_high s, ?_, ?_, ?_⟩
  · rw [statusWord_busy, busy, Bool.decide_or]
  · rw [statusWord_err]; cases s.err <;> rfl
  · rw [statusWord_prev]; cases s.prev <;> rfl
  · rw [statusWord_rejReason]; cases s.rejReason <;> rfl
  · rw [statusWord_cs]; cases s.cs <;> rfl
  · rw [statusWord_err]; exact s.err.code_ne_three
  · rw [statusWord_prev]; exact s.prev.code_ne_three
  · rw [statusWord_cs]; exact s.cs.code_ne_three

/-- Settles O16: the reset state is written out, and its sequence is INIT's one drive. -/
theorem resetValues : Obligations.ResetValues := by
  intro cfg
  exact ⟨rfl, rfl, rfl, rfl, rfl, rfl, rfl, rfl, rfl, rfl, rfl, rfl, rfl, rfl, rfl, rfl⟩

/-- Settles O52: the reserved offsets hold no result and read as zero, and a write anywhere but at
CMD is ignored. -/
theorem reservedReadsAndOtherWrites : Obligations.ReservedReadsAndOtherWrites := by
  intro s v rest hc
  constructor
  · intro off hoff hi
    have hoff : off = 0x14 ∨ off = 0x18 ∨ off = 0x1C := by simpa using hoff
    have hin : inContract off 4 = true := by obtain rfl | rfl | rfl := hoff <;> rfl
    have hres : isResult off = false := by obtain rfl | rfl | rfl := hoff <;> rfl
    rw [step_hostRead_of_not_isResult hc hin hres hi,
      registerAt_reserved _ (by omega) (by omega)]
  · intro k hk hi
    have hin : inContract (4 * k.val) 4 = true := (inContract_word_iff _).2 ⟨by omega, by omega⟩
    have hk : k.val ≠ 0 := Fin.val_ne_zero_iff.2 hk
    exact step_hostWrite_of_ne_zero hc hin (by omega) hi

end Sys2Proof.Machine
end

section
/-! SUPPORT. The command word under a mask: which fields a mask of the opcode map selects
(30_encoding.md R75, R77). -/

namespace Sys2Proof

/-- Masking a word masks its five fields. -/
theorem and_packWord (w : Word) (c b a : Byte) (idx opc : BitVec 4) :
    w &&& packWord c b a idx opc =
      packWord (cOf w &&& c) (bOf w &&& b) (aOf w &&& a) (idxOf w &&& idx) (opcOf w &&& opc) := by
  have hand : packWord (cOf w) (bOf w) (aOf w) (idxOf w) (opcOf w) &&& packWord c b a idx opc =
      packWord (cOf w &&& c) (bOf w &&& b) (aOf w &&& a) (idxOf w &&& idx) (opcOf w &&& opc) := by
    show (cOf w ++ bOf w ++ aOf w ++ idxOf w ++ opcOf w) &&& (c ++ b ++ a ++ idx ++ opc) = _
    simp only [BitVec.and_append]
    rfl
  rwa [packWord_fields] at hand

/-- A packed word is zero exactly when each of its fields is. -/
theorem packWord_eq_zero_iff (c b a : Byte) (idx opc : BitVec 4) :
    packWord c b a idx opc = 0 ↔ c = 0 ∧ b = 0 ∧ a = 0 ∧ idx = 0 ∧ opc = 0 := by
  constructor
  · intro h
    refine ⟨?_, ?_, ?_, ?_, ?_⟩
    · rw [← cOf_packWord c b a idx opc, h]; rfl
    · rw [← bOf_packWord c b a idx opc, h]; rfl
    · rw [← aOf_packWord c b a idx opc, h]; rfl
    · rw [← idxOf_packWord c b a idx opc, h]; rfl
    · rw [← opcOf_packWord c b a idx opc, h]; rfl
  · rintro ⟨rfl, rfl, rfl, rfl, rfl⟩
    rfl

/-- The mask of the opcode field keeps the opcode. -/
theorem opcOf_and_0xF (w : Word) : opcOf (w &&& 0xF) = opcOf w := by
  have h : w &&& 0xF = _ := and_packWord w 0 0 0 0 (.allOnes 4)
  rw [h, opcOf_packWord, BitVec.and_allOnes]

/-- What a mask leaves of a word fixes what any part of that mask leaves. -/
theorem and_eq_of_and_eq {w m v : Word} (m' : Word) (hm : m &&& m' = m') (h : w &&& m = v) :
    w &&& m' = v &&& m' := by
  rw [← h, BitVec.and_assoc, hm]

/-- The unused fields of a word, given by a mask of whole fields, are zero exactly when the word is
zero under the mask; the opcode is never among them (30_encoding.md R80). -/
theorem and_unused_eq_zero_iff (w : Word) (c b a : Byte) (idx : BitVec 4) :
    w &&& packWord c b a idx 0 = 0 ↔
      idxOf w &&& idx = 0 ∧ aOf w &&& a = 0 ∧ bOf w &&& b = 0 ∧ cOf w &&& c = 0 := by
  have hopc : opcOf w &&& 0 = 0 := BitVec.and_zero
  rw [and_packWord, packWord_eq_zero_iff]
  tauto

end Sys2Proof
end

section
/-! SUPPORT. The decoder, one equation per opcode (30_encoding.md R77, R78), and the checks it makes
(R82, R83). The must-be-zero fields of a row are one mask. -/

namespace Sys2Proof

variable {w : Word}

/-- The opcode that the mask 0xF leaves is the one the decoder looks at. -/
theorem opcOf_toNat_of_and {v : Word} (h : w &&& 0xF = v) : (opcOf w).toNat = (opcOf v).toNat := by
  rw [← opcOf_and_0xF w, h]

/-- The opcodes without a row are refused, whatever the other fields (30_encoding.md R84). -/
theorem decode_of_illegal_opcode (h : (opcOf w).toNat = 0 ∨ 7 ≤ (opcOf w).toNat) :
    decode w = .error .illegalOpc := by
  unfold decode
  split
  case h_7 => rfl
  all_goals omega

/-- READ_REG: IDX, B and C are zero, then the address is checked. -/
theorem decode_readReg (h : w &&& 0xF = 1) :
    decode w =
      if w &&& 0xFFFF00F0 ≠ 0 then .error .reserved
      else if !validAddr (aOf w) then .error .badAddr
      else .ok (.readReg (aOf w)) := by
  have hopc : (opcOf w).toNat = 1 := opcOf_toNat_of_and h
  have hz : w &&& 0xFFFF00F0 = 0 ↔ _ :=
    and_unused_eq_zero_iff w (.allOnes 8) (.allOnes 8) 0 (.allOnes 4)
  simp only [ne_eq, hz, BitVec.and_allOnes]
  simp [decode, hopc, allZero, imp_iff_not_or]

/-- WRITE_REG: IDX and C are zero, then the address is checked. -/
theorem decode_writeReg (h : w &&& 0xF = 2) :
    decode w =
      if w &&& 0xFF0000F0 ≠ 0 then .error .reserved
      else if !validAddr (aOf w) then .error .badAddr
      else .ok (.writeReg (aOf w) (bOf w)) := by
  have hopc : (opcOf w).toNat = 2 := opcOf_toNat_of_and h
  have hz : w &&& 0xFF0000F0 = 0 ↔ _ := and_unused_eq_zero_iff w (.allOnes 8) 0 0 (.allOnes 4)
  simp only [ne_eq, hz, BitVec.and_allOnes]
  simp [decode, hopc, allZero, imp_iff_not_or]

/-- RMW: IDX is zero, then the address is checked. -/
theorem decode_rmw (h : w &&& 0xF = 3) :
    decode w =
      if w &&& 0x000000F0 ≠ 0 then .error .reserved
      else if !validAddr (aOf w) then .error .badAddr
      else .ok (.rmw (aOf w) (bOf w) (cOf w)) := by
  have hopc : (opcOf w).toNat = 3 := opcOf_toNat_of_and h
  have hz : w &&& 0x000000F0 = 0 ↔ _ := and_unused_eq_zero_iff w 0 0 0 (.allOnes 4)
  simp only [ne_eq, hz, BitVec.and_allOnes]
  simp [decode, hopc, allZero]

/-- SET_FIELD: A and C are zero, then the index and the code are checked. -/
theorem decode_setField (h : w &&& 0xF = 4) :
    decode w =
      if w &&& 0xFF00FF00 ≠ 0 then .error .reserved
      else (fieldOfIndex (idxOf w)).elim (.error .badField) fun f =>
        if codeOk f (bOf w) then .ok (.setField f (bOf w)) else .error .badField := by
  have hopc : (opcOf w).toNat = 4 := opcOf_toNat_of_and h
  have hz : w &&& 0xFF00FF00 = 0 ↔ _ := and_unused_eq_zero_iff w (.allOnes 8) 0 (.allOnes 8) 0
  simp only [ne_eq, hz, BitVec.and_allOnes]
  cases hf : fieldOfIndex (idxOf w) <;> simp [decode, hopc, hf, allZero, imp_iff_not_or]

/-- BURST_READ: IDX and C are zero, then the address is checked, then the range. -/
theorem decode_burstRead (h : w &&& 0xF = 5) :
    decode w =
      if w &&& 0xFF0000F0 ≠ 0 then .error .reserved
      else if !validAddr (aOf w) then .error .badAddr
      else if !rangeOk (aOf w) (bOf w) then .error .badCount
      else .ok (.burstRead (aOf w) (bOf w)) := by
  have hopc : (opcOf w).toNat = 5 := opcOf_toNat_of_and h
  have hz : w &&& 0xFF0000F0 = 0 ↔ _ := and_unused_eq_zero_iff w (.allOnes 8) 0 0 (.allOnes 4)
  simp only [ne_eq, hz, BitVec.and_allOnes]
  simp [decode, hopc, allZero, imp_iff_not_or]

/-- READ_AXES: all the other fields are zero. -/
theorem decode_readAxes (h : w &&& 0xF = 6) :
    decode w = if w &&& 0xFFFFFFF0 ≠ 0 then .error .reserved else .ok .readAxes := by
  have hopc : (opcOf w).toNat = 6 := opcOf_toNat_of_and h
  have hz : w &&& 0xFFFFFFF0 = 0 ↔ _ :=
    and_unused_eq_zero_iff w (.allOnes 8) (.allOnes 8) (.allOnes 8) (.allOnes 4)
  simp only [ne_eq, hz, BitVec.and_allOnes]
  simp [decode, hopc, allZero, imp_iff_not_or]

/-- What the burst's range check admits, address by address (30_encoding.md R82). -/
theorem rangeOk_iff_forall (a n : Byte) :
    rangeOk a n = true ↔
      1 ≤ n.toNat ∧ ∀ i < n.toNat, (0x0D ≤ a.toNat + i ∧ a.toNat + i ≤ 0x0F) ∨
        (0x20 ≤ a.toNat + i ∧ a.toNat + i ≤ 0x3F) := by
  simp [rangeOk, validAddrNat]

/-- The burst's range check in closed form: the two ends of the range lie in one run of the address
map, because a range that begins in the first run and ends in the second contains the gap at 0x10
(30_encoding.md R82). -/
theorem rangeOk_iff_run (a n : Byte) :
    rangeOk a n = true ↔
      1 ≤ n.toNat ∧ ((0x0D ≤ a.toNat ∧ a.toNat + n.toNat - 1 ≤ 0x0F) ∨
        (0x20 ≤ a.toNat ∧ a.toNat + n.toNat - 1 ≤ 0x3F)) := by
  rw [rangeOk_iff_forall]
  refine and_congr_right fun hn => ⟨fun hall => ?_, fun hrun i hi => by omega⟩
  have hfirst := hall 0 (by omega)
  have hlast := hall (n.toNat - 1) (by omega)
  by_cases hgap : a.toNat < 0x10 ∧ 0x10 < a.toNat + n.toNat
  · have hin := hall (0x10 - a.toNat) (by omega)
    omega
  · omega

/-- An admitted burst fits into RDATA. -/
theorem toNat_le_of_rangeOk {a n : Byte} (h : rangeOk a n = true) : n.toNat ≤ 32 := by
  obtain ⟨-, hrun⟩ := (rangeOk_iff_run a n).1 h
  omega

/-- The variant counts of the field table by index; there is no code from index 5 on
(42_rmw.md R140). -/
theorem ncodes_fieldOfIndex (idx : BitVec 4) :
    (fieldOfIndex idx).elim 0 Field.ncodes = [3, 4, 10, 4, 2].getD idx.toNat 0 := by
  revert idx
  decide

/-- The field check compares the code with the variant count of the index (30_encoding.md R83). -/
theorem any_codeOk_iff (idx : BitVec 4) (code : Byte) :
    (fieldOfIndex idx).any (fun f => codeOk f code) = true ↔
      code.toNat < [3, 4, 10, 4, 2].getD idx.toNat 0 := by
  rw [← ncodes_fieldOfIndex]
  cases fieldOfIndex idx with
  | none => simp
  | some f => simp [codeOk]

/-- An index outside the table and a code the field does not have are refused alike
(30_encoding.md R83). -/
theorem decode_setField_of_not_any_codeOk (h : w &&& 0xF = 4) (hz : w &&& 0xFF00FF00 = 0)
    (hbad : ¬ (fieldOfIndex (idxOf w)).any (fun f => codeOk f (bOf w)) = true) :
    decode w = .error .badField := by
  rw [decode_setField h, if_neg (not_not.2 hz)]
  cases hf : fieldOfIndex (idxOf w) with
  | none => rfl
  | some f =>
    have hcode : ¬ codeOk f (bOf w) = true := by simpa [hf] using hbad
    simp [hcode]

end Sys2Proof
end

section
/-! SUPPORT. The refusal of a word that does not decode, as one step (60_exceptions.md R184, R185). -/

namespace Sys2Proof.Machine

/-- IDLE has no refusal of its own, so the decoder's reason is the one recorded. -/
theorem step_of_decode_error {s : State} {w : Word} {rest : List Input} {r : RejReason}
    (hc : configOk s.cfg = true) (hidle : s.fsm = .idle)
    (hi : s.inputs = .hostWrite 0x00 4 w :: rest) (hd : decode w = .error r) :
    step s = .next { s with inputs := rest, reject := true, rejReason := r } := by
  have hmode : stateRefusal { s with inputs := rest } = none := (stateRefusal_eq_none _).2 hidle
  rw [step_cmdWrite hc hi]
  simp [cmdWrite, hd, refuseWord, hmode, refuse]

end Sys2Proof.Machine
end

section
/-! The obligations on the command word. -/

namespace Sys2Proof.Machine

/-- Settles O4: the decoder has no row for the opcode. -/
theorem illegalOpcodeRefused : Obligations.IllegalOpcodeRefused := by
  intro s w rest hc hidle hi hopc
  exact step_of_decode_error hc hidle hi (decode_of_illegal_opcode hopc)

/-- Settles O5: in each row the must-be-zero fields are looked at first. -/
theorem reservedFieldRefused : Obligations.ReservedFieldRefused := by
  intro s w rest hc hidle hi hrow
  refine step_of_decode_error hc hidle hi ?_
  obtain ⟨h, hne⟩ | ⟨h, hne⟩ | ⟨h, hne⟩ | ⟨h, hne⟩ | ⟨h, hne⟩ | ⟨h, hne⟩ := hrow
  · rw [decode_readReg h, if_pos hne]
  · rw [decode_writeReg h, if_pos hne]
  · rw [decode_rmw h, if_pos hne]
  · rw [decode_setField h, if_pos hne]
  · rw [decode_burstRead h, if_pos hne]
  · rw [decode_readAxes h, if_pos hne]

/-- Settles O7: the range check is the last of the BURST_READ row. -/
theorem burstRangeChecked : Obligations.BurstRangeChecked := by
  refine ⟨rangeOk_iff_forall, rangeOk_iff_run, fun a n => toNat_le_of_rangeOk, ?_⟩
  intro s w rest hc hidle hi hw ha hr
  have hopc : w &&& 0xF = 5 := and_eq_of_and_eq 0xF rfl hw
  have hz : w &&& 0xFF0000F0 = 0 := and_eq_of_and_eq 0xFF0000F0 rfl hw
  have ha : validAddr (aOf w) = true := ha
  have hr : rangeOk (aOf w) (bOf w) = false := hr
  refine step_of_decode_error hc hidle hi ?_
  rw [decode_burstRead hopc, if_neg (not_not.2 hz), ha, hr]
  rfl

/-- Settles O8: an index from 5 on has no legal code, so the field check is one comparison of the code
with the table's count. -/
theorem fieldOutsideTableRefused : Obligations.FieldOutsideTableRefused := by
  constructor
  · intro idx code
    rw [any_codeOk_iff]
    refine ⟨fun hcode => ⟨?_, hcode⟩, And.right⟩
    by_contra hidx
    rw [List.getD_eq_default _ _ (not_lt.1 hidx)] at hcode
    exact Nat.not_lt_zero _ hcode
  · intro s w rest hc hidle hi hw hcode
    have hopc : w &&& 0xF = 4 := and_eq_of_and_eq 0xF rfl hw
    have hz : w &&& 0xFF00FF00 = 0 := and_eq_of_and_eq 0xFF00FF00 rfl hw
    have hbad : ¬ (fieldOfIndex (idxOf w)).any (fun f => codeOk f (bOf w)) = true :=
      (any_codeOk_iff _ _).not.2 (not_lt.2 hcode)
    exact step_of_decode_error hc hidle hi (decode_setField_of_not_any_codeOk hopc hz hbad)

/-- Settles O9: each expansion is a row of the table. -/
theorem pseudoCommandsExpand : Obligations.PseudoCommandsExpand := by
  refine ⟨fun cfg v a m => ⟨rfl, rfl, rfl, rfl, rfl, rfl, rfl, rfl⟩, ?_⟩
  decide

end Sys2Proof.Machine
end

section
/-! SUPPORT. A run on a list of answers is one fold: the answers still to come are read by no operation,
so each step is `answered` and leaves the rest of the list alone (40_primitives.md R100; log 2). -/

namespace Sys2Proof.Machine

/-- The engine in front of another future of the outside world. -/
def State.withInputs (s : State) (l : List Input) : State := { s with inputs := l }

@[simp] theorem withInputs_inputs (s : State) (l : List Input) : (s.withInputs l).inputs = l := rfl

@[simp] theorem withInputs_withInputs (s : State) (l l' : List Input) :
    (s.withInputs l).withInputs l' = s.withInputs l' := rfl

/-- Completion does not read the inputs. -/
theorem complete_withInputs (fin : Finish) (s : State) (l : List Input) :
    complete fin (s.withInputs l) = (complete fin s).withInputs l := by
  unfold complete settleResults applyFinish scramble State.withInputs
  cases fin <;> by_cases h : s.err = .none <;> simp [h]

/-- The walk to the next frame does not read the inputs. -/
theorem enterNext_withInputs (sc : Script) (s : State) (l : List Input) :
    enterNext sc (s.withInputs l) = (enterNext sc s).withInputs l := by
  unfold enterNext
  split
  · rfl
  · rfl
  · exact complete_withInputs sc.finish s l

@[simp] theorem enterNext_inputs (sc : Script) (s : State) : (enterNext sc s).inputs = s.inputs := by
  have h : enterNext sc s = (enterNext sc s).withInputs s.inputs := enterNext_withInputs sc s _
  rw [h, withInputs_inputs]

/-- The end of a frame does not read the inputs. -/
theorem endFrame_withInputs (q : RunSeq) (s : State) (l : List Input) :
    endFrame q (s.withInputs l) = (endFrame q s).withInputs l := by
  have happly : applyFrame q.op q.frame.ok q.frame.rx (s.withInputs l) =
      (applyFrame q.op q.frame.ok q.frame.rx s).withInputs l := by
    cases q.op <;> cases q.frame.ok <;> rfl
  rw [endFrame, happly, enterNext_withInputs, endFrame]

theorem deselectAnswered_withInputs (q : RunSeq) (r : PinResp) (s : State) (l : List Input) :
    deselectAnswered q r (s.withInputs l) = (deselectAnswered q r s).withInputs l := by
  cases r with
  | ok => exact endFrame_withInputs q (pinDrive .high .ok s) l
  | err => exact endFrame_withInputs _ (note .pin (pinDrive .high .err s)) l

/-- An answer takes effect whatever is to come after it, and leaves that as it is. -/
theorem answered_withInputs (a : Answer) (s : State) (l : List Input) :
    answered a (s.withInputs l) = (answered a s).withInputs l := by
  have hseq : (s.withInputs l).seq = s.seq := rfl
  unfold answered
  rw [hseq]
  split
  · rfl
  · cases a <;> rfl
  · split
    · cases a <;> rfl
    · cases a <;> rfl
    · exact deselectAnswered_withInputs _ _ s l

/-- The ports' answers take effect one after the other. -/
def answeredAll : List Answer → State → State
  | [], s => s
  | a :: answers, s => answeredAll answers (answered a s)

/-- Steps that take answers are the answers' effects, in order. -/
theorem runSteps_answers {s : State} {answers : List Answer} {rest : List Input}
    (hc : configOk s.cfg = true) (hi : s.inputs = answerInputs answers ++ rest) :
    runSteps answers.length s = .next (answeredAll answers (s.withInputs rest)) := by
  induction answers generalizing s with
  | nil =>
    have hi : s.inputs = rest := hi
    subst hi
    rfl
  | cons a answers ih =>
    have hstep : step s = .next ((answered a s).withInputs (answerInputs answers ++ rest)) :=
      (step_answer hc hi).trans (congrArg _ (answered_withInputs a s _))
    have hc' : configOk ((answered a s).withInputs (answerInputs answers ++ rest)).cfg = true :=
      (answered_cfg a s).symm ▸ hc
    rw [List.length_cons, runSteps_succ_of_step hstep, ih hc' (withInputs_inputs _ _),
      withInputs_withInputs, ← answered_withInputs, answeredAll]

end Sys2Proof.Machine
end

section
/-! SUPPORT. Acceptance in IDLE: the fields `begin` writes, and the walk to the first frame
(40_primitives.md R113). -/

namespace Sys2Proof.Machine

theorem accept_of_idle (w : Word) (n : BitVec 6) (sc : Script) {s : State} (h : s.fsm = .idle) :
    accept w n sc s = begin w n sc s := by
  rw [accept, (stateRefusal_eq_none s).2 h]

theorem clearAxisValid_of_idle {s : State} (h : s.fsm = .idle) :
    clearAxisValid s = { s with axisValid := false } := by
  rw [clearAxisValid, if_pos ((stateRefusal_eq_none s).2 h)]

/-- An idle engine accepts every command (an ill-formed one too: log 20). -/
theorem exec_of_idle (i : Instr) {s : State} (h : s.fsm = .idle) :
    exec i s = .next (enterNext (scriptOf s.cfg i) (beginFields i s)) := by
  rw [exec_eq_accept]
  by_cases hi : i = .readAxes
  · subst hi
    rw [if_pos rfl, clearAxisValid_of_idle h]
    exact congrArg _ (accept_of_idle _ _ _ h)
  · rw [if_neg hi, accept_of_idle _ _ _ h, begin, beginFields, if_neg hi]

/-- After its acceptance a command runs on the ports' answers. -/
theorem runSteps_begun {i : Instr} {s : State} {answers : List Answer} {rest : List Input}
    (hc : configOk s.cfg = true) (hi : s.inputs = answerInputs answers ++ rest) :
    runSteps answers.length (enterNext (scriptOf s.cfg i) (beginFields i s)) =
      .next (answeredAll answers
        (enterNext (scriptOf s.cfg i) (beginFields i (s.withInputs rest)))) := by
  have hc' : configOk (enterNext (scriptOf s.cfg i) (beginFields i s)).cfg = true := by
    rwa [enterNext_cfg]
  have hi' : (enterNext (scriptOf s.cfg i) (beginFields i s)).inputs =
      answerInputs answers ++ rest := by
    rwa [enterNext_inputs]
  rw [runSteps_answers hc' hi', ← enterNext_withInputs]
  rfl

end Sys2Proof.Machine
end

section
/-! SUPPORT. How many answers a command takes: every answer uses up one interaction of the script, so a
well-formed command has completed after 51 (40_primitives.md R107, R114). -/

namespace Sys2Proof.Machine

/-- The interactions of a frame in which none fails: the select, the exchanges, the deselect. -/
def frameLength (op : FrameOp) : Nat := (frameOut 0 op).length + frameReads op + 2

/-- The interactions of the frames a command has yet to begin, when none fails. -/
def Script.interactions (sc : Script) : Nat :=
  (sc.todo.map frameLength).sum + (sc.cleanup.map frameLength).sum

/-- A bound on the interactions left in a frame. At an exchange at least that exchange and the deselect
are left, even in a frame with no byte to exchange, which no command reaches. -/
def Frame.interactionsLeft (f : Frame) : Nat :=
  match f.pos with
  | .select => f.out.length + f.nread + 2
  | .exchange => f.out.length + f.nread - 1 + 2
  | .deselect => 1

/-- A bound on the answers the sequencer still takes. -/
def Seq.interactionsLeft : Seq → Nat
  | .none => 0
  | .init => 1
  | .run q => q.frame.interactionsLeft + q.rest.interactions

namespace Frame

variable {f : Frame}

theorem interactionsLeft_select (h : f.pos = .select) :
    f.interactionsLeft = f.out.length + f.nread + 2 := by
  rw [interactionsLeft, h]

theorem interactionsLeft_exchange (h : f.pos = .exchange) :
    f.interactionsLeft = f.out.length + f.nread - 1 + 2 := by
  rw [interactionsLeft, h]

theorem interactionsLeft_deselect (h : f.pos = .deselect) : f.interactionsLeft = 1 := by
  rw [interactionsLeft, h]

theorem interactionsLeft_pos (f : Frame) : 0 < f.interactionsLeft := by
  unfold interactionsLeft
  split <;> omega

/-- A failed frame has its deselect left. -/
theorem interactionsLeft_abort (f : Frame) : f.abort.interactionsLeft = 1 := rfl

/-- `advance` leaves the exchanges and the deselect. -/
theorem interactionsLeft_advance (f : Frame) :
    f.advance.interactionsLeft = f.out.length + f.nread + 1 := by
  obtain ⟨hout, hread, hpos⟩ | ⟨hne, hpos⟩ := f.advance_cases
  · rw [interactionsLeft_deselect hpos, hout, hread]
    rfl
  · rw [← List.length_pos_iff] at hne
    rw [interactionsLeft_exchange hpos, advance_out, advance_nread]
    omega

/-- A successful exchange uses up a byte to send, or a read. -/
theorem interactionsLeft_exchanged (f : Frame) (data : Byte) :
    (f.exchanged data).interactionsLeft = f.out.length + f.nread - 1 + 1 := by
  unfold exchanged
  split
  next b out hout =>
    rw [interactionsLeft_advance, hout, List.length_cons]
    show out.length + f.nread + 1 = _
    omega
  next hout =>
    rw [interactionsLeft_advance, hout, List.length_nil, Nat.zero_add, Nat.zero_add]

/-- A frame about to begin has all its interactions left; their number does not depend on the byte that
the write phase of a read-modify-write sends. -/
theorem interactionsLeft_startFrame (new : Byte) (op : FrameOp) :
    (startFrame new op).interactionsLeft = frameLength op := by
  cases op <;> rfl

end Frame

/-- The sequencer is cleared when no interaction is left. -/
theorem Seq.eq_none_of_interactionsLeft {q : Seq} (h : q.interactionsLeft = 0) : q = .none := by
  cases q with
  | none => rfl
  | init => cases h
  | run q =>
    have hpos := q.frame.interactionsLeft_pos
    rw [Seq.interactionsLeft] at h
    omega

/-- Entering a script leaves exactly its interactions. -/
theorem interactionsLeft_enterNext (sc : Script) (s : State) :
    (enterNext sc s).seq.interactionsLeft = sc.interactions := by
  obtain ⟨op, todo, ht, h⟩ | ⟨op, cleanup, ht, hcl, h⟩ | ⟨ht, hcl, h⟩ := enterNext_cases sc s
  · simp [h, Seq.interactionsLeft, Frame.interactionsLeft_startFrame, Script.interactions, ht,
      add_assoc]
  · simp [h, Seq.interactionsLeft, Frame.interactionsLeft_startFrame, Script.interactions, ht, hcl]
  · obtain ⟨-, -, hseq, -⟩ := complete_outcome sc.finish s
    simp [h, hseq, Seq.interactionsLeft, Script.interactions, ht, hcl]

/-- The end of a frame leaves at most the rest of the script: a failed frame drops some of it. -/
theorem interactionsLeft_endFrame_le (q : RunSeq) (s : State) :
    (endFrame q s).seq.interactionsLeft ≤ q.rest.interactions := by
  rw [endFrame, interactionsLeft_enterNext]
  cases q.frame.ok <;> simp [afterFrame, Script.interactions]

/-- Every answer uses up an interaction, while one is left. -/
theorem interactionsLeft_answered_le (a : Answer) (s : State) :
    (answered a s).seq.interactionsLeft ≤ s.seq.interactionsLeft - 1 := by
  obtain ⟨hs, h⟩ | ⟨-, h⟩ | ⟨q, hs, ⟨hp, h⟩ | ⟨hp, h⟩ | ⟨hp, h⟩⟩ := answered_cases a s
  · rw [h, hs]
    exact Nat.zero_le _
  · rw [h]
    cases a <;> exact Nat.zero_le _
  · rw [h, hs, Seq.interactionsLeft, Frame.interactionsLeft_select hp]
    cases a with
    | ok data =>
      have hf := q.frame.interactionsLeft_advance
      simp only [Answer.toPin, selectAnswered, moveTo_seq, Seq.interactionsLeft]
      omega
    | err =>
      have hf := q.frame.interactionsLeft_abort
      simp only [Answer.toPin, selectAnswered, moveTo_seq, Seq.interactionsLeft]
      omega
  · rw [h, hs, Seq.interactionsLeft, Frame.interactionsLeft_exchange hp]
    cases a with
    | ok data =>
      have hf := q.frame.interactionsLeft_exchanged data
      simp only [Answer.toXfer, exchangeAnswered, moveTo_seq, Seq.interactionsLeft]
      omega
    | err =>
      have hf := q.frame.interactionsLeft_abort
      simp only [Answer.toXfer, exchangeAnswered, moveTo_seq, Seq.interactionsLeft]
      omega
  · rw [h, hs, Seq.interactionsLeft, Frame.interactionsLeft_deselect hp, Nat.add_sub_cancel_left]
    cases a with
    | ok data => exact interactionsLeft_endFrame_le q _
    | err => exact interactionsLeft_endFrame_le { q with frame := q.frame.abort } _

theorem interactionsLeft_answeredAll_le (answers : List Answer) (s : State) :
    (answeredAll answers s).seq.interactionsLeft ≤ s.seq.interactionsLeft - answers.length := by
  induction answers generalizing s with
  | nil => exact le_rfl
  | cons a answers ih =>
    have hhead := interactionsLeft_answered_le a s
    have htail := ih (answered a s)
    rw [answeredAll, List.length_cons]
    omega

/-- A burst's script: two read-modify-writes of eight interactions around its data frame. -/
theorem interactions_burstScript (aiReg a n : Byte) (fin : Finish) :
    (burstScript aiReg a n fin).interactions = n.toNat + 19 := by
  show 4 + (4 + (1 + n.toNat + 2 + 0)) + (4 + (4 + 0)) = n.toNat + 19
  omega

/-- No well-formed command has more than 51 interactions; a burst of 32 has that many. -/
theorem interactions_scriptOf_le (cfg : Config) {i : Instr} (h : i.wf = true) :
    (scriptOf cfg i).interactions ≤ 51 := by
  cases i with
  | readReg a => exact (by decide : 4 ≤ 51)
  | writeReg a b => exact (by decide : 4 ≤ 51)
  | rmw a clear set => exact (by decide : 8 ≤ 51)
  | setField f code => exact (by decide : 8 ≤ 51)
  | burstRead a n =>
    have hn := toNat_le_of_rangeOk h
    rw [scriptOf, interactions_burstScript]
    omega
  | readAxes =>
    rw [scriptOf, interactions_burstScript]
    decide

/-- A well-formed command has completed after 51 answers, whatever they are. -/
theorem seq_answeredAll_eq_none {i : Instr} {answers : List Answer} (cfg : Config) (s : State)
    (h : i.wf = true) (hlen : 51 ≤ answers.length) :
    (answeredAll answers (enterNext (scriptOf cfg i) s)).seq = .none := by
  refine Seq.eq_none_of_interactionsLeft ?_
  have hleft := interactionsLeft_answeredAll_le answers (enterNext (scriptOf cfg i) s)
  have hscript := interactions_scriptOf_le cfg h
  rw [interactionsLeft_enterNext] at hleft
  omega

end Sys2Proof.Machine
end

section
/-! SUPPORT. The walk through the frames writes no error and no event: only an interaction does. -/

namespace Sys2Proof.Machine

/-- A command is running, or has completed with `valid` by its error (60_exceptions.md R183). -/
def RunsOrCompleted (s : State) : Prop :=
  (∃ q, s.seq = .run q) ∨ s.seq = .none ∧ s.valid = decide (s.err = .none)

/-- The walk keeps the errors and the trace, and goes on in a frame or completes the command. -/
theorem enterNext_outcome (sc : Script) (s : State) :
    (enterNext sc s).err = s.err ∧ (enterNext sc s).prev = s.prev ∧
      (enterNext sc s).trace = s.trace ∧ RunsOrCompleted (enterNext sc s) := by
  obtain ⟨op, todo, -, h⟩ | ⟨op, cleanup, -, -, h⟩ | ⟨-, -, h⟩ := enterNext_cases sc s
  · rw [h]
    exact ⟨rfl, rfl, rfl, .inl ⟨_, rfl⟩⟩
  · rw [h]
    exact ⟨rfl, rfl, rfl, .inl ⟨_, rfl⟩⟩
  · obtain ⟨-, -, hseq, hvalid, herr, hprev, -, htrace, -⟩ := complete_outcome sc.finish s
    rw [h]
    exact ⟨herr, hprev, htrace, .inr ⟨hseq, herr.symm ▸ hvalid⟩⟩

/-- The end of a frame keeps the errors and the trace, too. -/
theorem endFrame_outcome (q : RunSeq) (s : State) :
    (endFrame q s).err = s.err ∧ (endFrame q s).prev = s.prev ∧
      (endFrame q s).trace = s.trace ∧ RunsOrCompleted (endFrame q s) := by
  obtain ⟨c, n, v, h⟩ := applyFrame_frame q.op q.frame.ok q.frame.rx s
  rw [endFrame, h]
  exact enterNext_outcome _ { s with cur := c, new := n, rdata := v }

end Sys2Proof.Machine
end

section
/-! SUPPORT. One interaction in the terms of the trace: the event it adds, and the kind it notes when it
failed (40_primitives.md R102, R104, R106). -/

namespace Sys2Proof.Machine

/-- From `s` to `t` one interaction was made, with the event `e`: what `t` reports is what `s` did, or
what `note` makes of it for the kind of the event's failure. -/
structure Interacts (e : Event) (s t : State) : Prop where
  trace : t.trace = s.trace ++ [e]
  errors : (failureKinds [e] = [] ∧ t.err = s.err ∧ t.prev = s.prev) ∨
    ∃ k, failureKinds [e] = [k] ∧ t.err = (note k s).err ∧ t.prev = (note k s).prev

theorem interacts_pinDrive_ok (l : Level) (s : State) :
    Interacts (.pin l .ok) s (pinDrive l .ok s) :=
  ⟨rfl, .inl ⟨rfl, rfl, rfl⟩⟩

theorem interacts_pinDrive_err (l : Level) (s : State) :
    Interacts (.pin l .err) s (note .pin (pinDrive l .err s)) :=
  ⟨rfl, .inr ⟨.pin, rfl, rfl, rfl⟩⟩

theorem interacts_xfer_ok (b data : Byte) (s : State) :
    Interacts (.xfer b (.ok data)) s (xfer b (.ok data) s) :=
  ⟨rfl, .inl ⟨rfl, rfl, rfl⟩⟩

theorem interacts_xfer_err (b : Byte) (s : State) :
    Interacts (.xfer b .err) s (note .transport (xfer b .err s)) :=
  ⟨rfl, .inr ⟨.transport, rfl, rfl, rfl⟩⟩

/-- The move within a frame adds nothing to an interaction. -/
theorem Interacts.moveTo {e : Event} {s t : State} (h : Interacts e s t) (q : RunSeq) (f : Frame) :
    Interacts e s (moveTo q f t) :=
  ⟨h.trace, h.errors⟩

/-- The end of the frame adds nothing to its last interaction. -/
theorem Interacts.endFrame {e : Event} {s t : State} (h : Interacts e s t) (q : RunSeq) :
    Interacts e s (endFrame q t) := by
  obtain ⟨herr, hprev, htrace, -⟩ := endFrame_outcome q t
  exact ⟨htrace.trans h.trace, by rw [herr, hprev]; exact h.errors⟩

/-- An answer to a running command is one interaction, after which the command is running still, or has
completed. -/
theorem answered_interacts (a : Answer) {s : State} {q : RunSeq} (hs : s.seq = .run q) :
    RunsOrCompleted (answered a s) ∧ ∃ e, Interacts e s (answered a s) := by
  obtain ⟨hn, -⟩ | ⟨hn, -⟩ | ⟨q, -, ⟨-, h⟩ | ⟨-, h⟩ | ⟨-, h⟩⟩ := answered_cases a s
  · cases hs.symm.trans hn
  · cases hs.symm.trans hn
  · rw [h]
    cases a with
    | ok data => exact ⟨.inl ⟨_, rfl⟩, _, (interacts_pinDrive_ok .low s).moveTo q _⟩
    | err => exact ⟨.inl ⟨_, rfl⟩, _, (interacts_pinDrive_err .low s).moveTo q _⟩
  · rw [h]
    cases a with
    | ok data => exact ⟨.inl ⟨_, rfl⟩, _, (interacts_xfer_ok _ data s).moveTo q _⟩
    | err => exact ⟨.inl ⟨_, rfl⟩, _, (interacts_xfer_err _ s).moveTo q _⟩
  · rw [h]
    cases a with
    | ok data =>
      obtain ⟨-, -, -, hphase⟩ := endFrame_outcome q (pinDrive .high .ok s)
      exact ⟨hphase, _, (interacts_pinDrive_ok .high s).endFrame q⟩
    | err =>
      obtain ⟨-, -, -, hphase⟩ :=
        endFrame_outcome { q with frame := q.frame.abort } (note .pin (pinDrive .high .err s))
      exact ⟨hphase, _, (interacts_pinDrive_err .high s).endFrame _⟩

end Sys2Proof.Machine
end

section
/-! SUPPORT. The invariant of a command's errors (40_primitives.md R106): `err` and `prev` against the
events of the command so far. -/

namespace Sys2Proof.Machine

theorem failureKinds_append (evs evs' : List Event) :
    failureKinds (evs ++ evs') = failureKinds evs ++ failureKinds evs' := by
  induction evs using failureKinds.induct <;> simp_all [failureKinds]

/-- Every failure has a kind. -/
theorem none_notMem_failureKinds (evs : List Event) : ErrCode.none ∉ failureKinds evs := by
  induction evs using failureKinds.induct <;> simp_all [failureKinds]

/-- The last of the kinds is NONE only where there is none. -/
theorem getLast?_failureKinds_eq_none_iff (evs : List Event) :
    (failureKinds evs).getLast?.getD .none = .none ↔ failureKinds evs = [] := by
  refine ⟨fun h => ?_, fun h => by rw [h]; rfl⟩
  by_contra hne
  rw [List.getLast?_eq_some_getLast hne, Option.getD_some] at h
  exact none_notMem_failureKinds evs (h ▸ List.getLast_mem hne)

/-- `s` reports the failures among the events `evs` that follow `start` in its trace. -/
structure ReportsFailures (start evs : List Event) (s : State) : Prop where
  trace : s.trace = start ++ evs
  err : s.err = (failureKinds evs).getLast?.getD .none
  prev : s.prev = (failureKinds evs).dropLast.getLast?.getD .none

namespace ReportsFailures

variable {start evs : List Event} {s t : State}

theorem err_eq_none_iff (h : ReportsFailures start evs s) :
    s.err = .none ↔ failureKinds evs = [] := by
  rw [h.err, getLast?_failureKinds_eq_none_iff]

/-- A `note` moves the error reported so far to `prev`, be it NONE or not: while it is NONE, `prev` is
NONE too. -/
theorem note_prev_eq_err (h : ReportsFailures start evs s) (k : ErrCode) :
    (note k s).prev = s.err := by
  rw [note_prev]
  split
  next hnone => rw [h.prev, h.err_eq_none_iff.1 hnone, hnone]; rfl
  next => rfl

/-- One interaction more, and its failure is reported with the others. -/
theorem snoc {e : Event} (h : ReportsFailures start evs s) (hi : Interacts e s t) :
    ReportsFailures start (evs ++ [e]) t := by
  have htrace : t.trace = start ++ (evs ++ [e]) := by
    rw [hi.trace, h.trace, List.append_assoc]
  obtain ⟨hk, herr, hprev⟩ | ⟨k, hk, herr, hprev⟩ := hi.errors
  · refine ⟨htrace, ?_, ?_⟩
    · rw [failureKinds_append, hk, List.append_nil, herr, h.err]
    · rw [failureKinds_append, hk, List.append_nil, hprev, h.prev]
  · refine ⟨htrace, ?_, ?_⟩
    · rw [failureKinds_append, hk, List.getLast?_concat, herr]
      rfl
    · rw [failureKinds_append, hk, List.dropLast_concat, hprev, h.note_prev_eq_err, h.err]

/-- Answers keep the invariant: each adds one interaction to the command's events, or comes after its
completion and is ignored (log 12). -/
theorem after_answers (answers : List Answer) (h : ReportsFailures start evs s)
    (hp : RunsOrCompleted s) :
    RunsOrCompleted (answeredAll answers s) ∧
      ∃ evs', ReportsFailures start evs' (answeredAll answers s) := by
  induction answers generalizing evs s with
  | nil => exact ⟨hp, evs, h⟩
  | cons a answers ih =>
    rw [answeredAll]
    obtain ⟨q, hq⟩ | ⟨hn, hv⟩ := hp
    · obtain ⟨hp', e, he⟩ := answered_interacts a hq
      exact ih (h.snoc he) hp'
    · have hstay : answered a s = s := by rw [answered, hn]
      rw [hstay]
      exact ih h (.inr ⟨hn, hv⟩)

end ReportsFailures

/-- A command that has just begun has no event and no error. -/
theorem reportsFailures_begun (sc : Script) (i : Instr) (s : State) :
    ReportsFailures s.trace [] (enterNext sc (beginFields i s)) := by
  obtain ⟨herr, hprev, htrace, -⟩ := enterNext_outcome sc (beginFields i s)
  exact ⟨htrace.trans (List.append_nil _).symm, herr, hprev⟩

end Sys2Proof.Machine
end

section
/-! The obligation on the error accumulator. -/

namespace Sys2Proof.Machine

/-- Settles O28: the errors agree with the events at acceptance and after every answer, and after 51
answers the command has completed, so `valid` is decided. -/
theorem lastTwoFailuresReported : Obligations.LastTwoFailuresReported := by
  refine ⟨fun s k => ⟨note_err s k, note_prev s k⟩, ?_⟩
  intro s i answers hc hidle hwf hlen hi
  have hrun := runSteps_begun (i := i) hc (hi.trans (List.append_nil _).symm)
  have hbegun := reportsFailures_begun (scriptOf s.cfg i) i (s.withInputs [])
  obtain ⟨-, -, -, hphase⟩ := enterNext_outcome (scriptOf s.cfg i) (beginFields i (s.withInputs []))
  obtain ⟨hend, evs, hu⟩ := hbegun.after_answers answers hphase
  have hdone := seq_answeredAll_eq_none s.cfg (beginFields i (s.withInputs [])) hwf hlen.ge
  rw [hlen] at hrun
  refine ⟨_, _, evs, exec_of_idle i hidle, hrun, hu.trace, hu.err, hu.prev, ?_⟩
  obtain ⟨q, hq⟩ | ⟨-, hvalid⟩ := hend
  · cases hdone.symm.trans hq
  · rw [hvalid, decide_eq_true_iff, hu.err_eq_none_iff]

end Sys2Proof.Machine
end

section
/-! SUPPORT. One bit of the modify arithmetic (42_rmw.md R144), from the same bit of its operands. -/

namespace Sys2Proof.Machine

@[simp] theorem getLsbD_modifyByte (cur clear set : Byte) {k : Nat} (hk : k < 8) :
    (modifyByte cur clear set).getLsbD k =
      (cur.getLsbD k && !clear.getLsbD k || set.getLsbD k) := by
  simp [modifyByte, hk]

end Sys2Proof.Machine
end

section
/-! The obligation on the modify arithmetic. -/

namespace Sys2Proof.Machine

/-- Settles O45, by the three cases of R144: the bit is in `set`, in `clear` alone, or in neither
mask. -/
theorem modifyBitByBit : Obligations.ModifyBitByBit := by
  intro cur clear set k hk
  rw [getLsbD_modifyByte cur clear set hk]
  cases set.getLsbD k with
  | true => simp
  | false =>
    cases clear.getLsbD k with
    | true => simp
    | false => simp

end Sys2Proof.Machine
end

section
/-! SUPPORT. The modes that turn every command away, and FAILED among them (60_exceptions.md R184,
R190). -/

namespace Sys2Proof.Machine

/-- READ_AXES clears `axis_valid` at its acceptance only (40_primitives.md R113). -/
theorem clearAxisValid_of_stateRefusal {s : State} {r : RejReason} (h : stateRefusal s = some r) :
    clearAxisValid s = s := by
  simp [clearAxisValid, h]

/-- A mode that turns commands away refuses every word with its own reason, whether or not the word
decodes. -/
theorem cmdWrite_of_stateRefusal {s : State} {r : RejReason} (h : stateRefusal s = some r) (w : Word) :
    cmdWrite w s = .next (refuse r s) := by
  obtain ⟨i, -, hw⟩ | ⟨reason, -, hw⟩ := cmdWrite_cases w s
  · rw [hw, exec_eq_accept, clearAxisValid_of_stateRefusal h, ite_self, accept, h]
  · rw [hw, refuseWord, h]

theorem stateRefusal_of_failed {s : State} (h : s.fsm = .failed) :
    stateRefusal s = some .initFailed := by
  rw [stateRefusal, h]

/-- While the INIT sequence is loaded, an answer is the initial drive's (70_reset_and_hazards.md
R212). -/
theorem answered_of_init (a : Answer) {s : State} (h : s.seq = .init) :
    answered a s = initAnswered a.toPin s := by
  rw [answered, h]

/-- Without a request an answer is ignored (log 12). -/
theorem answered_of_none (a : Answer) {s : State} (h : s.seq = .none) : answered a s = s := by
  rw [answered, h]

/-- FAILED has no request outstanding: this is where the invariant comes in, as a request left over
would let an answer move the engine on. -/
theorem seq_eq_none_of_failed {s : State} (h : Consistent s = true) (hf : s.fsm = .failed) :
    s.seq = .none := by
  have hagree : seqAgrees s = true := by
    simp only [Consistent, Bool.and_eq_true] at h
    obtain ⟨⟨⟨⟨-, hagree⟩, -⟩, -⟩, -⟩ := h
    exact hagree
  cases hseq : s.seq with
  | none => rfl
  | init => simp [seqAgrees, hseq, hf] at hagree
  | run q => simp [seqAgrees, hseq, hf] at hagree

/-- With no request outstanding, reset is the only act of the outside world that leaves FAILED. -/
theorem perform_failed_iff {i : Input} {s t : State} (hf : s.fsm = .failed) (hseq : s.seq = .none)
    (h : perform i s = .next t) : t.fsm = .failed ↔ i ≠ .reset := by
  obtain ⟨rfl, rfl⟩ | ⟨off, width, rfl, -, rfl⟩ |
    ⟨off, width, v, rfl, -, ⟨-, hw⟩ | ⟨-, rfl⟩⟩ | ⟨a, rfl, rfl⟩ | ⟨a, rfl, rfl⟩ :=
    perform_cases i s t h
  · simp
  · simp [hf]
  · cases (cmdWrite_of_stateRefusal (stateRefusal_of_failed hf) v).symm.trans hw
    simp [hf]
  · simp [hf]
  · simp [answered_of_none a hseq, hf]
  · simp [hf]

end Sys2Proof.Machine
end

section
/-! The obligation on FAILED. -/

namespace Sys2Proof.Machine

/-- Settles O15: a failed initial drive is `initAnswered`'s second case, FAILED turns every word away,
and among the inputs reset alone leaves it. -/
theorem failedUntilReset : Obligations.FailedUntilReset := by
  refine ⟨?_, ?_, ?_⟩
  · intro s rest hc hseq hi
    have hinit : (s.withInputs rest).seq = .init := hseq
    refine ⟨_, step_answer hc hi, ?_⟩
    exact congrArg State.fsm (answered_of_init .err hinit)
  · intro s w rest hc hf hi
    have hfailed : (s.withInputs rest).fsm = .failed := hf
    rw [step_cmdWrite hc hi]
    exact cmdWrite_of_stateRefusal (stateRefusal_of_failed hfailed) w
  · intro s t i rest hcons hf hi hs
    have hseq := seq_eq_none_of_failed hcons hf
    obtain ⟨-, ⟨hnil, -⟩ | ⟨j, rest', hj, hp⟩⟩ := step_cases s t hs
    · cases hi.symm.trans hnil
    · cases hi.symm.trans hj
      exact perform_failed_iff (s := s.withInputs rest) hf hseq hp

end Sys2Proof.Machine
end

section
/-! SUPPORT. The two cases of a step that the next input's effect does not decide: reset, which no mode
holds back, and a configuration that fails its checks, which no input gets past
(70_reset_and_hazards.md R210, R215). -/

namespace Sys2Proof.Machine

/-- A step that takes the reset input is `assertReset`, in every mode. -/
theorem step_reset {s : State} {rest : List Input} (hc : configOk s.cfg = true)
    (hi : s.inputs = .reset :: rest) : step s = .next (assertReset { s with inputs := rest }) := by
  simp [step, machineStep, hc, takeInput, hi, perform]

/-- A configuration is ill-formed when either of its two checks fails. -/
theorem configOk_eq_false_iff (cfg : Config) :
    configOk cfg = false ↔ paramsOk cfg = false ∨ fieldTableOk cfg = false := by
  rw [configOk, Bool.and_eq_false_iff]

/-- Under an ill-formed configuration the step is refused before any input is looked at. -/
theorem step_of_configOk_eq_false {s : State} (hc : configOk s.cfg = false) :
    step s = .refused .badConfig := by
  simp [step, machineStep, hc]

end Sys2Proof.Machine
end

section
/-! The obligations on the reset input and on an ill-formed configuration. -/

namespace Sys2Proof.Machine

/-- Settles O17: the step is `assertReset`, whose fields the lemmas `assertReset_*` of the simp
set give one by one; it keeps the configuration and the inputs still to come. -/
theorem resetAtAnyTime : Obligations.ResetAtAnyTime := by
  intro s rest hc hi
  refine ⟨_, step_reset hc hi, ?_⟩
  simp

/-- Settles O21: either failed check makes the configuration ill-formed, and then there is no step. -/
theorem illFormedConfigurationHasNoRun : Obligations.IllFormedConfigurationHasNoRun := by
  intro s hbad
  exact step_of_configOk_eq_false ((configOk_eq_false_iff s.cfg).2 hbad)

end Sys2Proof.Machine
end

section
/-! SUPPORT. The rows of the opcode table in both directions: the fields of a packed word, and the word of
a row packed again from its fields (30_encoding.md R75, R77). -/

namespace Sys2Proof

/-- The fields of a packed word, together. -/
theorem fields_packWord (c b a : Byte) (idx opc : BitVec 4) :
    opcOf (packWord c b a idx opc) = opc ∧ idxOf (packWord c b a idx opc) = idx ∧
      aOf (packWord c b a idx opc) = a ∧ bOf (packWord c b a idx opc) = b ∧
      cOf (packWord c b a idx opc) = c :=
  ⟨opcOf_packWord .., idxOf_packWord .., aOf_packWord .., bOf_packWord .., cOf_packWord ..⟩

/-- A check that did not turn the word away has passed. -/
theorem eq_true_of_not_not {b : Bool} (h : ¬ (!b) = true) : b = true := by
  simpa using h

/-- An opcode by its number. -/
theorem opcOf_eq_ofNat {w : Word} {k : Nat} (h : (opcOf w).toNat = k) :
    opcOf w = BitVec.ofNat 4 k := by
  rw [← h, BitVec.ofNat_toNat, BitVec.setWidth_eq]

/-- The index of a field leads back to the field (42_rmw.md R140). -/
theorem fieldOfIndex_index (f : Field) : fieldOfIndex f.index = some f := by
  cases f <;> rfl

/-- Only the field's own index leads to it. -/
theorem index_of_fieldOfIndex {idx : BitVec 4} {f : Field} (h : fieldOfIndex idx = some f) :
    f.index = idx := by
  revert idx
  cases f <;> decide

/-- The first address of an admitted burst is in the map. -/
theorem validAddr_of_rangeOk {a n : Byte} (h : rangeOk a n = true) : validAddr a = true := by
  obtain ⟨hn, hall⟩ := (rangeOk_iff_forall a n).1 h
  exact (validAddr_iff a).2 (hall 0 (by omega))

/-- No word is turned away for no reason (60_exceptions.md R185). -/
theorem decode_error_ne_none {w : Word} {r : RejReason} (h : decode w = .error r) : r ≠ .none := by
  rintro rfl
  unfold decode at h
  repeat' split at h
  all_goals cases h

end Sys2Proof
end

section
/-! The obligations on encoding and decoding. -/

namespace Sys2Proof

/-- Settles O1: in each row the packed fields are read back, the unused ones as zero, and the
operand constraints are the row's checks. -/
theorem decodeOfEncode : Obligations.DecodeOfEncode := by
  intro i hwf
  cases i with
  | readReg a =>
    have ha : validAddr a = true := hwf
    simp [decode, encode, fields_packWord, allZero, ha]
  | writeReg a b =>
    have ha : validAddr a = true := hwf
    simp [decode, encode, fields_packWord, allZero, ha]
  | rmw a clear set =>
    have ha : validAddr a = true := hwf
    simp [decode, encode, fields_packWord, allZero, ha]
  | setField f code =>
    have hcode : codeOk f code = true := hwf
    simp [decode, encode, fields_packWord, allZero, fieldOfIndex_index, hcode]
  | burstRead a n =>
    have hr : rangeOk a n = true := hwf
    have ha := validAddr_of_rangeOk hr
    simp [decode, encode, fields_packWord, allZero, ha, hr]
  | readAxes => rfl

/-- Settles O2: in each row the opcode and the zero check fix every field of the word that is not an
operand, and a word is the packing of its fields. -/
theorem encodeOfDecode : Obligations.EncodeOfDecode := by
  intro w i hd
  have hw := packWord_fields w
  unfold decode at hd
  split at hd
  case h_1 hopc =>
    split_ifs at hd with hz ha
    cases hd
    obtain ⟨hidx, hb, hc⟩ : idxOf w = 0 ∧ bOf w = 0 ∧ cOf w = 0 := by simpa [allZero] using hz
    rw [opcOf_eq_ofNat hopc, hidx, hb, hc] at hw
    exact ⟨eq_true_of_not_not ha, hw⟩
  case h_2 hopc =>
    split_ifs at hd with hz ha
    cases hd
    obtain ⟨hidx, hc⟩ : idxOf w = 0 ∧ cOf w = 0 := by simpa [allZero] using hz
    rw [opcOf_eq_ofNat hopc, hidx, hc] at hw
    exact ⟨eq_true_of_not_not ha, hw⟩
  case h_3 hopc =>
    split_ifs at hd with hz ha
    cases hd
    have hidx : idxOf w = 0 := by simpa [allZero] using hz
    rw [opcOf_eq_ofNat hopc, hidx] at hw
    exact ⟨eq_true_of_not_not ha, hw⟩
  case h_4 hopc =>
    split_ifs at hd with hz
    obtain ⟨ha, hc⟩ : aOf w = 0 ∧ cOf w = 0 := by simpa [allZero] using hz
    rw [opcOf_eq_ofNat hopc, ha, hc] at hw
    split at hd
    next => cases hd
    next f hf =>
      split_ifs at hd with hcode
      cases hd
      rw [← index_of_fieldOfIndex hf] at hw
      exact ⟨hcode, hw⟩
  case h_5 hopc =>
    split_ifs at hd with hz ha hr
    cases hd
    obtain ⟨hidx, hc⟩ : idxOf w = 0 ∧ cOf w = 0 := by simpa [allZero] using hz
    rw [opcOf_eq_ofNat hopc, hidx, hc] at hw
    exact ⟨eq_true_of_not_not hr, hw⟩
  case h_6 hopc =>
    split_ifs at hd with hz
    cases hd
    obtain ⟨hidx, ha, hb, hc⟩ : idxOf w = 0 ∧ aOf w = 0 ∧ bOf w = 0 ∧ cOf w = 0 := by
      simpa [allZero] using hz
    rw [opcOf_eq_ofNat hopc, hidx, ha, hb, hc] at hw
    exact ⟨rfl, hw⟩
  case h_7 => cases hd

end Sys2Proof
end

section
/-! SUPPORT. The invariant of a running command (10_state.md R44, 40_primitives.md R112): what it says
apart from the command's place in a frame, and which operations keep that. -/

namespace Sys2Proof.Machine

/-- The conjuncts of the invariant, apart. -/
theorem consistent_iff (s : State) :
    Consistent s = true ↔ configOk s.cfg = true ∧ seqAgrees s = true ∧ lineAgrees s = true ∧
      flagsAgree s = true ∧ commandDecodes s = true := by
  simp [Consistent, and_assoc]

/-- What the invariant says of a running command, but for its place in the frame. -/
structure RunsCommand (s : State) : Prop where
  cfg : configOk s.cfg = true
  fsm : s.fsm = .run
  initFail : s.initFail = false
  done : s.done = false
  valid : s.valid = false
  prev : s.prev = .none ∨ s.err ≠ .none
  reject : s.reject = decide (s.rejReason ≠ .none)
  rcount : s.rcount.toNat ≤ 32
  decodes : ∃ i, decode s.cmd = .ok i

/-- A running command is consistent when its fields and its place in the frame are. -/
theorem consistent_run_iff {s : State} {q : RunSeq} (h : s.seq = .run q) :
    Consistent s = true ↔ RunsCommand s ∧ lineAgrees s = true := by
  rw [consistent_iff]
  constructor
  · rintro ⟨hcfg, hseq, hline, hflags, hcmd⟩
    have hfsm : s.fsm = .run := by
      cases hf : s.fsm <;> simp [seqAgrees, h, hf] at hseq ⊢
    have hdec : ∃ i, decode s.cmd = .ok i := by
      cases hd : decode s.cmd with
      | ok i => exact ⟨i, rfl⟩
      | error r => simp [commandDecodes, hfsm, hd] at hcmd
    simp only [flagsAgree, hfsm] at hflags
    simp at hflags
    obtain ⟨⟨⟨⟨⟨hinit, hdone⟩, hvalid⟩, hprev⟩, hreject⟩, hrcount⟩ := hflags
    exact ⟨⟨hcfg, hfsm, hinit, hdone, by simpa [hdone] using hvalid, hprev, by simpa using hreject,
      hrcount, hdec⟩, hline⟩
  · rintro ⟨⟨hcfg, hfsm, hinit, hdone, hvalid, hprev, hreject, hrcount, i, hdec⟩, hline⟩
    refine ⟨hcfg, by simp [seqAgrees, h, hfsm], hline, ?_, by simp [commandDecodes, hfsm, hdec]⟩
    simpa [flagsAgree, hfsm, hinit, hdone, hvalid, hreject, hrcount] using hprev

namespace RunsCommand

variable {s : State}

/-- A drive and an exchange write none of these fields, and neither does a move within a frame. -/
theorem pinDrive (h : RunsCommand s) (l : Level) (r : PinResp) : RunsCommand (pinDrive l r s) :=
  ⟨h.cfg, h.fsm, h.initFail, h.done, h.valid, h.prev, h.reject, h.rcount, h.decodes⟩

theorem xfer (h : RunsCommand s) (b : Byte) (r : XferResp) : RunsCommand (xfer b r s) :=
  ⟨h.cfg, h.fsm, h.initFail, h.done, h.valid, h.prev, h.reject, h.rcount, h.decodes⟩

theorem moveTo (h : RunsCommand s) (q : RunSeq) (f : Frame) : RunsCommand (moveTo q f s) :=
  ⟨h.cfg, h.fsm, h.initFail, h.done, h.valid, h.prev, h.reject, h.rcount, h.decodes⟩

theorem enterFrame (h : RunsCommand s) (op : FrameOp) (rest : Script) :
    RunsCommand (enterFrame op rest s) :=
  ⟨h.cfg, h.fsm, h.initFail, h.done, h.valid, h.prev, h.reject, h.rcount, h.decodes⟩

/-- A failure that is noted has a kind. -/
theorem note (h : RunsCommand s) {k : ErrCode} (hk : k ≠ .none) : RunsCommand (note k s) :=
  ⟨h.cfg, h.fsm, h.initFail, h.done, h.valid, .inr hk, h.reject, h.rcount, h.decodes⟩

theorem applyFrame (h : RunsCommand s) (op : FrameOp) (ok : Bool) (rx : List Byte) :
    RunsCommand (applyFrame op ok rx s) := by
  obtain ⟨c, n, v, hs⟩ := applyFrame_frame op ok rx s
  rw [hs]
  exact ⟨h.cfg, h.fsm, h.initFail, h.done, h.valid, h.prev, h.reject, h.rcount, h.decodes⟩

/-- A command that completes leaves a consistent engine, if the line was deselected or its failure
reported. -/
theorem consistent_complete (h : RunsCommand s) (hlow : s.cs ≠ .low)
    (hpin : s.cs = .unknown → s.err = .pin) (fin : Finish) :
    Consistent (complete fin s) = true := by
  obtain ⟨hfsm, hdone, hseq, hvalid, herr, hprev, hcs, -, hrcount⟩ := complete_outcome fin s
  obtain ⟨hcfg, -, -, hreject, hreason, hinit, -⟩ := complete_frame fin s
  rw [consistent_iff]
  refine ⟨hcfg ▸ h.cfg, by simp [seqAgrees, hseq, hfsm], ?_, ?_, by simp [commandDecodes, hfsm]⟩
  · simpa [lineAgrees, hseq, hcs, herr, hlow, ← imp_iff_not_or] using hpin
  · have hp := h.prev
    simpa [flagsAgree, hfsm, hdone, hvalid, herr, hprev, hreject, hreason, hinit, hrcount, h.initFail,
      h.reject, h.rcount] using hp

/-- A frame begins with the line not LOW. -/
theorem consistent_enterFrame (h : RunsCommand s) (hlow : s.cs ≠ .low) (op : FrameOp)
    (rest : Script) : Consistent (Machine.enterFrame op rest s) = true := by
  refine (consistent_run_iff (enterFrame_seq s op rest)).2 ⟨h.enterFrame op rest, ?_⟩
  simp [lineAgrees, startFrame, hlow]

/-- A command goes on to its next frame, or completes. -/
theorem consistent_enterNext (h : RunsCommand s) (hlow : s.cs ≠ .low)
    (hpin : s.cs = .unknown → s.err = .pin) (sc : Script) :
    Consistent (enterNext sc s) = true := by
  obtain ⟨op, todo, -, hn⟩ | ⟨op, cleanup, -, -, hn⟩ | ⟨-, -, hn⟩ := enterNext_cases sc s
  · exact hn ▸ h.consistent_enterFrame hlow op _
  · exact hn ▸ h.consistent_enterFrame hlow op _
  · exact hn ▸ h.consistent_complete hlow hpin _

/-- The same at the end of a frame, whether or not it failed. -/
theorem consistent_endFrame (h : RunsCommand s) (hlow : s.cs ≠ .low)
    (hpin : s.cs = .unknown → s.err = .pin) (q : RunSeq) :
    Consistent (endFrame q s) = true := by
  have happly := h.applyFrame q.op q.frame.ok q.frame.rx
  obtain ⟨c, n, v, hs⟩ := applyFrame_frame q.op q.frame.ok q.frame.rx s
  rw [endFrame]
  rw [hs] at happly ⊢
  exact happly.consistent_enterNext hlow hpin _

/-- A command whose select or exchange succeeded goes on with the line LOW. -/
theorem consistent_moveTo_advance (h : RunsCommand s) (hlow : s.cs = .low) (q : RunSeq) {f : Frame}
    (hok : f.ok = true) : Consistent (Machine.moveTo q f.advance s) = true := by
  refine (consistent_run_iff (moveTo_seq s q _)).2 ⟨h.moveTo q _, ?_⟩
  obtain ⟨-, -, hpos⟩ | ⟨hne, hpos⟩ := f.advance_cases
  · simp [lineAgrees, hpos, hok, hlow]
  · simpa [lineAgrees, hpos, hok, hlow] using hne

/-- A frame that failed deselects, with its failure reported. -/
theorem consistent_moveTo_abort (h : RunsCommand s) (hcs : s.cs ≠ .high) (herr : s.err ≠ .none)
    (q : RunSeq) (f : Frame) : Consistent (Machine.moveTo q f.abort s) = true := by
  refine (consistent_run_iff (moveTo_seq s q _)).2 ⟨h.moveTo q _, ?_⟩
  cases hl : s.cs with
  | low => simp [lineAgrees, Frame.abort, herr, hl]
  | unknown => simp [lineAgrees, Frame.abort, herr, hl]
  | high => exact absurd hl hcs

end RunsCommand

end Sys2Proof.Machine
end

section
/-! SUPPORT. Every act of the outside world keeps the invariant. -/

namespace Sys2Proof.Machine

variable {s : State}

/-- What the invariant says of the line at an exchange (40_primitives.md R112). -/
theorem line_of_exchange {q : RunSeq} (h : lineAgrees s = true) (hs : s.seq = .run q)
    (hp : q.frame.pos = .exchange) : s.cs = .low ∧ q.frame.ok = true := by
  simp [lineAgrees, hs, hp] at h
  obtain ⟨-, ⟨hcs, hok⟩, -⟩ := h
  exact ⟨hcs, hok⟩

/-- A frame about to select has not failed. -/
theorem ok_of_select {q : RunSeq} (h : lineAgrees s = true) (hs : s.seq = .run q)
    (hp : q.frame.pos = .select) : q.frame.ok = true := by
  simp [lineAgrees, hs, hp] at h
  obtain ⟨-, ⟨-, hok⟩, -⟩ := h
  exact hok

theorem consistent_selectAnswered {q : RunSeq} (h : Consistent s = true) (hs : s.seq = .run q)
    (hp : q.frame.pos = .select) (r : PinResp) : Consistent (selectAnswered q r s) = true := by
  obtain ⟨hrun, hline⟩ := (consistent_run_iff hs).1 h
  cases r with
  | ok => exact (hrun.pinDrive .low .ok).consistent_moveTo_advance rfl q (ok_of_select hline hs hp)
  | err =>
    exact ((hrun.pinDrive .low .err).note (by decide)).consistent_moveTo_abort (by simp) (by simp) q _

theorem consistent_exchangeAnswered {q : RunSeq} (h : Consistent s = true) (hs : s.seq = .run q)
    (hp : q.frame.pos = .exchange) (r : XferResp) : Consistent (exchangeAnswered q r s) = true := by
  obtain ⟨hrun, hline⟩ := (consistent_run_iff hs).1 h
  obtain ⟨hcs, hok⟩ := line_of_exchange hline hs hp
  cases r with
  | ok data =>
    have hx := hrun.xfer q.frame.nextByte (.ok data)
    rw [exchangeAnswered, Frame.exchanged]
    split
    · exact hx.consistent_moveTo_advance hcs q hok
    · exact hx.consistent_moveTo_advance hcs q hok
  | err =>
    exact ((hrun.xfer _ .err).note (by decide)).consistent_moveTo_abort (by simp [hcs]) (by simp) q _

theorem consistent_deselectAnswered {q : RunSeq} (h : Consistent s = true) (hs : s.seq = .run q)
    (r : PinResp) : Consistent (deselectAnswered q r s) = true := by
  obtain ⟨hrun, -⟩ := (consistent_run_iff hs).1 h
  cases r with
  | ok =>
    exact (hrun.pinDrive .high .ok).consistent_endFrame (by simp [Level.toCs]) (by simp [Level.toCs]) q
  | err =>
    exact ((hrun.pinDrive .high .err).note (by decide)).consistent_endFrame (by simp) (by simp) _

theorem consistent_initAnswered (h : Consistent s = true) (hs : s.seq = .init) (r : PinResp) :
    Consistent (initAnswered r s) = true := by
  obtain ⟨hcfg, hseq, hline, hflags, -⟩ := (consistent_iff s).1 h
  have hfsm : s.fsm = .init := by
    cases hf : s.fsm <;> simp [seqAgrees, hs, hf] at hseq ⊢
  simp [lineAgrees, hs] at hline
  obtain ⟨⟨-, herr⟩, hprev⟩ := hline
  simp [flagsAgree, hfsm, hprev] at hflags
  obtain ⟨⟨⟨⟨hinit, hdone⟩, hvalid⟩, hreject⟩, hrcount⟩ := hflags
  rw [consistent_iff]
  cases r <;>
    simp [initAnswered, seqAgrees, lineAgrees, flagsAgree, commandDecodes, hcfg, herr, hprev, hinit,
      hdone, hvalid, hreject, hrcount, Level.toCs]

theorem consistent_answered (h : Consistent s = true) (a : Answer) :
    Consistent (answered a s) = true := by
  obtain ⟨-, ha⟩ | ⟨hs, ha⟩ | ⟨q, hs, ⟨hp, ha⟩ | ⟨hp, ha⟩ | ⟨-, ha⟩⟩ := answered_cases a s
  · rwa [ha]
  · exact ha ▸ consistent_initAnswered h hs _
  · exact ha ▸ consistent_selectAnswered h hs hp _
  · exact ha ▸ consistent_exchangeAnswered h hs hp _
  · exact ha ▸ consistent_deselectAnswered h hs _

/-- The refusal of a word for a reason touches the refusal record only. -/
theorem consistent_refuse (h : Consistent s = true) {r : RejReason} (hr : r ≠ .none) :
    Consistent (refuse r s) = true := by
  obtain ⟨hcfg, hseq, hline, hflags, hcmd⟩ := (consistent_iff s).1 h
  refine (consistent_iff _).2 ⟨hcfg, hseq, hline, ?_, hcmd⟩
  simp only [flagsAgree, Bool.and_eq_true] at hflags
  obtain ⟨⟨hkept, -⟩, hrcount⟩ := hflags
  simp only [flagsAgree, Bool.and_eq_true]
  exact ⟨⟨hkept, by simp [hr]⟩, hrcount⟩

/-- Every mode that turns words away has a reason for it. -/
theorem stateRefusal_ne_none {r : RejReason} (h : stateRefusal s = some r) : r ≠ .none := by
  rintro rfl
  unfold stateRefusal at h
  split at h <;> cases h

/-- An idle engine has no request outstanding, and the line is not LOW. -/
theorem idle_of_consistent (h : Consistent s = true) (hidle : s.fsm = .idle) :
    s.seq = .none ∧ s.cs ≠ .low ∧ s.initFail = false := by
  obtain ⟨-, hseq, hline, hflags, -⟩ := (consistent_iff s).1 h
  have hnone : s.seq = .none := by
    cases hs : s.seq <;> simp [seqAgrees, hs, hidle] at hseq ⊢
  simp only [lineAgrees, hnone, Bool.and_eq_true, decide_eq_true_eq] at hline
  obtain ⟨hlow, -⟩ := hline
  simp only [flagsAgree, hidle, Bool.and_eq_true, decide_eq_true_eq] at hflags
  obtain ⟨⟨⟨⟨⟨⟨⟨hinit, -⟩, -⟩, -⟩, -⟩, -⟩, -⟩, -⟩ := hflags
  exact ⟨hnone, hlow, hinit⟩

/-- No command returns more bytes than RDATA holds. -/
theorem resultCount_le {i : Instr} (h : i.wf = true) : (resultCount i).toNat ≤ 32 := by
  cases i with
  | burstRead a n =>
    have hn := toNat_le_of_rangeOk h
    show (n.setWidth 6).toNat ≤ 32
    rw [BitVec.toNat_setWidth]
    omega
  | _ => simp [resultCount]

/-- A command begins with a frame. -/
theorem enterNext_scriptOf (cfg : Config) (i : Instr) :
    ∃ op rest, ∀ s, enterNext (scriptOf cfg i) s = enterFrame op rest s := by
  cases i <;> exact ⟨_, _, fun _ => rfl⟩

/-- A command that an idle engine accepts begins consistent. -/
theorem consistent_begun (h : Consistent s = true) (hidle : s.fsm = .idle) {i : Instr}
    (hwf : i.wf = true) : Consistent (enterNext (scriptOf s.cfg i) (beginFields i s)) = true := by
  obtain ⟨hcfg, -⟩ := (consistent_iff s).1 h
  obtain ⟨-, hlow, hinit⟩ := idle_of_consistent h hidle
  obtain ⟨op, rest, hn⟩ := enterNext_scriptOf s.cfg i
  have hrun : RunsCommand (beginFields i s) :=
    ⟨hcfg, rfl, hinit, rfl, rfl, .inl rfl, rfl, resultCount_le hwf, i, decodeOfEncode i hwf⟩
  exact hn _ ▸ hrun.consistent_enterFrame hlow op rest

/-- A CMD write is refused for a reason, or begins a command whose word decodes. -/
theorem consistent_cmdWrite {t : State} (h : Consistent s = true) {w : Word}
    (hw : cmdWrite w s = .next t) : Consistent t = true := by
  cases hmode : stateRefusal s with
  | some r =>
    cases (cmdWrite_of_stateRefusal hmode w).symm.trans hw
    exact consistent_refuse h (stateRefusal_ne_none hmode)
  | none =>
    have hidle := (stateRefusal_eq_none s).1 hmode
    obtain ⟨i, hd, hi⟩ | ⟨r, hd, hr⟩ := cmdWrite_cases w s
    · obtain ⟨hwf, -⟩ := encodeOfDecode w i hd
      cases (hi.trans (exec_of_idle i hidle)).symm.trans hw
      exact consistent_begun h hidle hwf
    · rw [refuseWord, hmode] at hr
      cases hr.symm.trans hw
      exact consistent_refuse h (decode_error_ne_none hd)

/-- Reset leads to a consistent engine from any state (10_state.md R43). -/
theorem consistent_assertReset (hc : configOk s.cfg = true) : Consistent (assertReset s) = true := by
  rw [consistent_iff]
  simp [seqAgrees, lineAgrees, flagsAgree, commandDecodes, hc]

/-- Every act of the outside world keeps the invariant. -/
theorem consistent_perform {i : Input} {t : State} (h : Consistent s = true)
    (hp : perform i s = .next t) : Consistent t = true := by
  obtain ⟨-, rfl⟩ | ⟨off, width, -, -, rfl⟩ | ⟨off, width, v, -, -, ⟨-, hw⟩ | ⟨-, rfl⟩⟩ |
    ⟨a, -, rfl⟩ | ⟨a, -, rfl⟩ := perform_cases i s t hp
  · exact consistent_assertReset ((consistent_iff s).1 h).1
  · exact h
  · exact consistent_cmdWrite h hw
  · exact h
  · exact consistent_answered h a
  · exact h

end Sys2Proof.Machine
end

section
/-! The obligations on the invariant. -/

namespace Sys2Proof.Machine

/-- Settles O55: a step does nothing or takes one input, and the inputs still to come are no part of the
invariant. -/
theorem invariantKept : Obligations.InvariantKept := by
  intro s t h hs
  obtain ⟨-, ⟨-, rfl⟩ | ⟨i, rest, -, hp⟩⟩ := step_cases s t hs
  · exact h
  · exact consistent_perform (s := s.withInputs rest) h hp

/-- Settles O54: the reset state is one the reset input leads to, but for its unspecified registers. -/
theorem invariantAtReset : Obligations.InvariantAtReset := by
  have hreset (cfg : Config) (hc : configOk cfg = true) : Consistent (State.resetOf cfg) = true :=
    consistent_assertReset (s := State.resetOf cfg) hc
  exact ⟨hreset, hreset _ (by decide)⟩

/-- Settles O26: an exchange is requested in a frame that stands at one, and there the invariant says
that the line is LOW. -/
theorem exchangeOnlyWhileSelected : Obligations.ExchangeOnlyWhileSelected := by
  intro s b h hr
  unfold request at hr
  split at hr
  · cases hr
  · cases hr
  next q hs =>
    obtain ⟨-, hline⟩ := (consistent_run_iff hs).1 h
    split at hr
    · cases hr
    next hp => exact (line_of_exchange hline hs hp).1
    · cases hr

end Sys2Proof.Machine
end

section
/-! The obligations on the presentation of a command word (60_exceptions.md R184, R185). -/

namespace Sys2Proof.Machine

/-- Settles O3, by evaluating both directions on the six rows. -/
theorem exampleEncodings : Obligations.ExampleEncodings := by
  unfold Obligations.ExampleEncodings
  decide

/-- Settles O6: in the four rows with an address, its check comes right after the zero check. -/
theorem addressOutsideMapRefused : Obligations.AddressOutsideMapRefused := by
  have hout (a : Byte) (h : ¬ ((0x0D ≤ a.toNat ∧ a.toNat ≤ 0x0F) ∨ (0x20 ≤ a.toNat ∧ a.toNat ≤ 0x3F))) :
      validAddr a = false := by
    rwa [← validAddr_iff, Bool.not_eq_true] at h
  refine ⟨fun s w rest hc hidle hi hrow ha => step_of_decode_error hc hidle hi ?_,
    fun a ha => hout a (by omega)⟩
  have ha : validAddr (aOf w) = false := hout _ ha
  obtain h | h | h | h := hrow
  · have hz : w &&& 0xFFFF00F0 = 0 := and_eq_of_and_eq 0xFFFF00F0 rfl h
    rw [decode_readReg (and_eq_of_and_eq 0xF rfl h), if_neg (not_not.2 hz), ha]
    rfl
  · have hz : w &&& 0xFF0000F0 = 0 := and_eq_of_and_eq 0xFF0000F0 rfl h
    rw [decode_writeReg (and_eq_of_and_eq 0xF rfl h), if_neg (not_not.2 hz), ha]
    rfl
  · have hz : w &&& 0x000000F0 = 0 := and_eq_of_and_eq 0x000000F0 rfl h
    rw [decode_rmw (and_eq_of_and_eq 0xF rfl h), if_neg (not_not.2 hz), ha]
    rfl
  · have hz : w &&& 0xFF0000F0 = 0 := and_eq_of_and_eq 0xFF0000F0 rfl h
    rw [decode_burstRead (and_eq_of_and_eq 0xF rfl h), if_neg (not_not.2 hz), ha]
    rfl

/-- Settles O10: the step is `cmdWrite`, which looks at the decoded word only. -/
theorem stepRunsDecodedCommand : Obligations.StepRunsDecodedCommand := by
  intro s w i rest hc hi hd
  rw [step_cmdWrite hc hi, cmdWrite, hd]

/-- Settles O11: the placed word is the encoding, which decodes to its instruction. -/
theorem placedWordRunsNext : Obligations.PlacedWordRunsNext := by
  intro s i hc hidle hwf
  have hword : BitVec.ofNat 32 ((encode i).toNat % 2 ^ 32) = encode i := by
    rw [Nat.mod_eq_of_lt (encode i).isLt, BitVec.ofNat_toNat, BitVec.setWidth_eq]
  have hplaced : s.withFetchWord 32 (encode i).toNat =
      s.withInputs (.hostWrite 0x00 4 (encode i) :: s.inputs) := by
    rw [State.withFetchWord, presentWord, readyForCommand, if_pos hidle, hword]
    rfl
  rw [hplaced]
  exact stepRunsDecodedCommand (s.withInputs (.hostWrite 0x00 4 (encode i) :: s.inputs)) _ i s.inputs
    hc rfl (decodeOfEncode i hwf)

/-- Settles O12: every script begins with a frame, and a frame with its select. -/
theorem acceptanceBeginsTheCommand : Obligations.AcceptanceBeginsTheCommand := by
  intro s i hidle
  rw [exec_of_idle i hidle]
  cases i <;> exact ⟨_, rfl, rfl⟩

/-- A mode that turns commands away does so with its own reason. -/
theorem exec_of_stateRefusal {s : State} {r : RejReason} (h : stateRefusal s = some r) (i : Instr) :
    exec i s = .next (refuse r s) := by
  rw [exec_eq_accept, clearAxisValid_of_stateRefusal h, ite_self, accept, h]

theorem stateRefusal_of_busy {s : State} (h : s.fsm = .init ∨ s.fsm = .run) :
    stateRefusal s = some .busy := by
  obtain h | h := h <;> rw [stateRefusal, h]

/-- Settles O13: INIT, RUN and FAILED each have a reason to turn a command away. -/
theorem commandsTurnedAwayOutsideIdle : Obligations.CommandsTurnedAwayOutsideIdle :=
  fun _ i => ⟨fun h => exec_of_stateRefusal (stateRefusal_of_busy h) i,
    fun h => exec_of_stateRefusal (stateRefusal_of_failed h) i⟩

/-- Settles O14: the mode is looked at before the word. -/
theorem busyRefusesEveryWord : Obligations.BusyRefusesEveryWord := by
  intro s w rest hc hbusy hi
  rw [step_cmdWrite hc hi]
  exact cmdWrite_of_stateRefusal (s := s.withInputs rest) (stateRefusal_of_busy hbusy) w

end Sys2Proof.Machine
end

section
/-! The obligations on INIT, on a reset in the middle of a command, and on the parameters. -/

namespace Sys2Proof.Machine

/-- A late answer to a request that reset abandoned is dropped (70_reset_and_hazards.md R213). -/
theorem step_lateAnswer {s : State} {a : Answer} {rest : List Input} (hc : configOk s.cfg = true)
    (hi : s.inputs = .lateAnswer a :: rest) : step s = .next { s with inputs := rest } := by
  simp [step, machineStep, hc, takeInput, hi, perform]

/-- Settles O18: reset loads INIT, the late answer is dropped, and the answer after it is INIT's. -/
theorem resetDiscardsTheCommand : Obligations.ResetDiscardsTheCommand := by
  intro s q late d rest hc hs hi
  exact ⟨_, _, _, step_reset hc hi, step_lateAnswer hc rfl, step_answer hc rfl, rfl, rfl, rfl, rfl,
    rfl, rfl, rfl, rfl⟩

/-- Settles O19: the answer ends INIT by the two cases of `initAnswered`; no STATUS field depends on the
configuration, so the words are those under TEST_CFG. -/
theorem initOutcome : Obligations.InitOutcome := by
  intro cfg d rest hc
  refine ⟨statusWord_resetOf cfg, ⟨_, step_answer hc rfl, rfl, rfl, rfl, rfl, rfl, ?_⟩,
    ⟨_, step_answer hc rfl, rfl, rfl, rfl, rfl, rfl, rfl, ?_⟩⟩
  · show statusWord (initAnswered .ok State.reset) = 0x00001000
    decide
  · show statusWord (initAnswered .err State.reset) = 0x00002808
    decide

/-- The constraints on the parameters, written out (00_scope.md R8 to R11). -/
theorem paramsOk_iff (cfg : Config) :
    paramsOk cfg = true ↔
      validAddr cfg.aiReg = true ∧ validAddr cfg.idAddr = true ∧
        (∀ k < 6, validAddrNat (cfg.xlAddr.toNat + k) = true) ∧
        validAddr cfg.cfgRegA = true ∧ validAddr cfg.cfgRegB = true ∧
        cfg.cfgRegA ≠ cfg.cfgRegB ∧ cfg.cfgRegA ≠ cfg.aiReg ∧ cfg.cfgRegB ≠ cfg.aiReg := by
  simp only [paramsOk, Bool.and_eq_true, List.all_eq_true, List.mem_range, decide_eq_true_eq, and_assoc]
  rfl

/-- The masks and variant counts of the table are in order whatever the parameters
(42_rmw.md R141 (c), (d)). -/
theorem descriptor_ok (cfg : Config) (f : Field) :
    fieldMaskContiguous (descriptor cfg f) = true ∧ fieldCodesFit (descriptor cfg f) = true := by
  cases f <;> simp [fieldMaskContiguous, fieldCodesFit, descriptor, Field.ncodes]

/-- The checks that depend on the parameters: (a) and (b) of 42_rmw.md R141. -/
theorem fieldTableOk_iff_forall (cfg : Config) :
    fieldTableOk cfg = true ↔ ∀ f : Field, fieldRegOk cfg (descriptor cfg f) = true ∧
      ∀ g, f = g ∨ fieldsDisjoint (descriptor cfg f) (descriptor cfg g) = true := by
  have hall (f : Field) : f ∈ allFields := by cases f <;> decide
  simp [fieldTableOk, hall, descriptor_ok]

/-- What is left of the field table's checks: its two registers are in the map, and differ from each
other and from AI_REG; MODE and LOW_NOISE, whose masks meet, are what keeps the two apart
(42_rmw.md R141). -/
theorem fieldTableOk_iff (cfg : Config) :
    fieldTableOk cfg = true ↔
      validAddr cfg.cfgRegA = true ∧ validAddr cfg.cfgRegB = true ∧
        cfg.cfgRegA ≠ cfg.cfgRegB ∧ cfg.cfgRegA ≠ cfg.aiReg ∧ cfg.cfgRegB ≠ cfg.aiReg := by
  rw [fieldTableOk_iff_forall]
  constructor
  · intro h
    obtain ⟨hmode, hdisjoint⟩ := h .mode
    obtain ⟨hfs, -⟩ := h .fs
    have hAB := hdisjoint .lowNoise
    simp [fieldRegOk, fieldsDisjoint, descriptor] at hmode hfs hAB
    obtain ⟨hA, hAai⟩ := hmode
    obtain ⟨hB, hBai⟩ := hfs
    exact ⟨hA, hB, of_decide_eq_true hAB, of_decide_eq_true hAai, of_decide_eq_true hBai⟩
  · rintro ⟨hA, hB, hAB, hAai, hBai⟩ f
    refine ⟨by cases f <;> simp [fieldRegOk, descriptor, *], fun g => ?_⟩
    cases f <;> cases g <;> simp [fieldsDisjoint, descriptor, hAB, hAB.symm]

/-- Settles O22: the checks are the constraints written out, and R11 asks for two registers. -/
theorem fieldTableFollowsFromParameters : Obligations.FieldTableFollowsFromParameters := by
  refine ⟨fun cfg => ⟨?_, ?_⟩, fun cfg h => ?_, fun cfg h => ?_⟩
  · simpa [validAddr, validAddrNat] using paramsOk_iff cfg
  · simpa [validAddr, validAddrNat] using fieldTableOk_iff cfg
  · obtain ⟨-, -, -, hregs⟩ := (paramsOk_iff cfg).1 h
    exact (fieldTableOk_iff cfg).2 hregs
  · rw [← Bool.not_eq_true, fieldTableOk_iff]
    rintro ⟨-, -, hne, -⟩
    exact hne h

end Sys2Proof.Machine
end

section
/-! SUPPORT. What an answer leaves unchanged (40_primitives.md R100). -/

namespace Sys2Proof.Machine

/-- From `s` to `t` the fields that acceptance, refusal and the host port write are as they were. -/
structure KeepsRecord (s t : State) : Prop where
  cmd : t.cmd = s.cmd
  rcount : t.rcount = s.rcount
  reject : t.reject = s.reject
  rejReason : t.rejReason = s.rejReason
  hostRead : t.hostRead = s.hostRead

/-- The end of a frame keeps them too, and leaves the line and the trace alone. -/
theorem endFrame_keeps (q : RunSeq) (s : State) :
    KeepsRecord s (endFrame q s) ∧ (endFrame q s).cs = s.cs ∧ (endFrame q s).trace = s.trace := by
  obtain ⟨c, n, v, happly⟩ := applyFrame_frame q.op q.frame.ok q.frame.rx s
  rw [endFrame, happly]
  obtain ⟨op, todo, -, h⟩ | ⟨op, cleanup, -, -, h⟩ | ⟨-, -, h⟩ :=
    enterNext_cases (afterFrame q.frame.ok q.rest) { s with cur := c, new := n, rdata := v }
  · rw [h]
    exact ⟨⟨rfl, rfl, rfl, rfl, rfl⟩, rfl, rfl⟩
  · rw [h]
    exact ⟨⟨rfl, rfl, rfl, rfl, rfl⟩, rfl, rfl⟩
  · rw [h]
    obtain ⟨-, -, -, -, -, -, hcs, htrace, hrcount⟩ := complete_outcome
      (afterFrame q.frame.ok q.rest).finish { s with cur := c, new := n, rdata := v }
    obtain ⟨-, -, hcmd, hreject, hreason, -, hread⟩ := complete_frame
      (afterFrame q.frame.ok q.rest).finish { s with cur := c, new := n, rdata := v }
    exact ⟨⟨hcmd, hrcount, hreject, hreason, hread⟩, hcs, htrace⟩

/-- The end of INIT keeps them, and makes the drive it waited for. -/
theorem initAnswered_keeps (r : PinResp) (s : State) :
    KeepsRecord s (initAnswered r s) ∧ (initAnswered r s).cs = (pinDrive .high r s).cs ∧
      (initAnswered r s).trace = s.trace ++ [.pin .high r] := by
  cases r <;> exact ⟨⟨rfl, rfl, rfl, rfl, rfl⟩, rfl, rfl⟩

theorem selectAnswered_keeps (q : RunSeq) (r : PinResp) (s : State) :
    KeepsRecord s (selectAnswered q r s) ∧ (selectAnswered q r s).cs = (pinDrive .low r s).cs ∧
      (selectAnswered q r s).trace = s.trace ++ [.pin .low r] := by
  cases r <;> exact ⟨⟨rfl, rfl, rfl, rfl, rfl⟩, rfl, rfl⟩

theorem exchangeAnswered_keeps (q : RunSeq) (r : XferResp) (s : State) :
    KeepsRecord s (exchangeAnswered q r s) ∧ (exchangeAnswered q r s).cs = s.cs ∧
      (exchangeAnswered q r s).trace = s.trace ++ [.xfer q.frame.nextByte r] := by
  cases r <;> exact ⟨⟨rfl, rfl, rfl, rfl, rfl⟩, rfl, rfl⟩

theorem deselectAnswered_keeps (q : RunSeq) (r : PinResp) (s : State) :
    KeepsRecord s (deselectAnswered q r s) ∧ (deselectAnswered q r s).cs = (pinDrive .high r s).cs ∧
      (deselectAnswered q r s).trace = s.trace ++ [.pin .high r] := by
  cases r with
  | ok =>
    obtain ⟨⟨hcmd, hrcount, hreject, hreason, hread⟩, hcs, htrace⟩ :=
      endFrame_keeps q (pinDrive .high .ok s)
    exact ⟨⟨hcmd, hrcount, hreject, hreason, hread⟩, hcs, htrace⟩
  | err =>
    obtain ⟨⟨hcmd, hrcount, hreject, hreason, hread⟩, hcs, htrace⟩ :=
      endFrame_keeps { q with frame := q.frame.abort } (note .pin (pinDrive .high .err s))
    exact ⟨⟨hcmd, hrcount, hreject, hreason, hread⟩, hcs, htrace⟩

/-- The event of a request and its answer. -/
def Request.event (r : Request) (a : Answer) : Event :=
  match r with
  | .pinDrive l => .pin l a.toPin
  | .xfer b => .xfer b a.toXfer

/-- What `cs` is after a request has been answered (40_primitives.md R101, R103). -/
def Request.csAfter (r : Request) (a : Answer) (s : State) : CsLevel :=
  match r with
  | .pinDrive l => (Machine.pinDrive l a.toPin s).cs
  | .xfer _ => s.cs

/-- An answer to an outstanding request makes that interaction. -/
theorem answered_request {s : State} {r : Request} (h : request s = some r) (a : Answer) :
    KeepsRecord s (answered a s) ∧ (answered a s).cs = r.csAfter a s ∧
      (answered a s).trace = s.trace ++ [r.event a] := by
  obtain ⟨hs, ha⟩ | ⟨hs, ha⟩ | ⟨q, hs, ⟨hp, ha⟩ | ⟨hp, ha⟩ | ⟨hp, ha⟩⟩ := answered_cases a s
  · simp [request, hs] at h
  · have hr : r = .pinDrive .high := by simpa [request, hs] using h.symm
    rw [ha, hr]
    exact initAnswered_keeps a.toPin s
  · have hr : r = .pinDrive .low := by simpa [request, hs, hp] using h.symm
    rw [ha, hr]
    exact selectAnswered_keeps q a.toPin s
  · have hr : r = .xfer q.frame.nextByte := by simpa [request, hs, hp] using h.symm
    rw [ha, hr]
    exact exchangeAnswered_keeps q a.toXfer s
  · have hr : r = .pinDrive .high := by simpa [request, hs, hp] using h.symm
    rw [ha, hr]
    exact deselectAnswered_keeps q a.toPin s

/-- A command that is accepted or refused makes no interaction (60_exceptions.md R184). -/
theorem cmdWrite_keeps_line {w : Word} {s t : State} (h : cmdWrite w s = .next t) :
    t.cs = s.cs ∧ t.trace = s.trace := by
  cases hmode : stateRefusal s with
  | some r =>
    cases (cmdWrite_of_stateRefusal hmode w).symm.trans h
    exact ⟨rfl, rfl⟩
  | none =>
    obtain ⟨i, -, hi⟩ | ⟨r, -, hr⟩ := cmdWrite_cases w s
    · obtain ⟨op, rest, hn⟩ := enterNext_scriptOf s.cfg i
      rw [hi, exec_of_idle i ((stateRefusal_eq_none s).1 hmode), hn] at h
      cases h
      exact ⟨rfl, rfl⟩
    · rw [refuseWord, hmode] at hr
      cases hr.symm.trans h
      exact ⟨rfl, rfl⟩

end Sys2Proof.Machine
end

section
/-! The obligations on one interaction. -/

namespace Sys2Proof.Machine

/-- Settles O23: the answer makes the interaction that was requested, which the cases of request and
answer then read off. -/
theorem answerPerformsTheRequest : Obligations.AnswerPerformsTheRequest := by
  intro s a r rest hc hi hr
  obtain ⟨hkeeps, hcs, htrace⟩ := answered_request (s := s.withInputs rest) hr a
  have hinputs : (answered a (s.withInputs rest)).inputs = rest := by
    rw [answered_withInputs, withInputs_inputs]
  refine ⟨_, step_answer hc hi, hinputs, hkeeps.cmd, hkeeps.rcount, hkeeps.reject, hkeeps.rejReason,
    hkeeps.hostRead, ?_⟩
  cases r with
  | pinDrive l => cases a <;> cases l <;> exact ⟨hcs, htrace⟩
  | xfer b => cases a <;> exact ⟨hcs, htrace⟩

/-- Settles O24: of the inputs that are left, only a CMD write does more than answer the host. -/
theorem onlyAnswersTouchTheLine : Obligations.OnlyAnswersTouchTheLine := by
  intro s t i rest hi hs hreset hanswer
  obtain ⟨-, ⟨hnil, -⟩ | ⟨j, rest', hj, hp⟩⟩ := step_cases s t hs
  · cases hi.symm.trans hnil
  cases hi.symm.trans hj
  obtain ⟨rfl, -⟩ | ⟨off, width, -, -, rfl⟩ | ⟨off, width, v, -, -, ⟨-, hw⟩ | ⟨-, rfl⟩⟩ |
    ⟨a, rfl, -⟩ | ⟨a, -, rfl⟩ := perform_cases i _ t hp
  · exact absurd rfl hreset
  · exact ⟨rfl, rfl⟩
  · exact cmdWrite_keeps_line (s := s.withInputs rest) hw
  · exact ⟨rfl, rfl⟩
  · exact absurd rfl (hanswer a)
  · exact ⟨rfl, rfl⟩

/-- Settles O25, by induction on the number of steps: each is one that nobody acts in. -/
theorem unansweredEngineStays : Obligations.UnansweredEngineStays := by
  intro s n hc hi
  have hstep : step s = .next s := by simp [step, machineStep, hc, takeInput, hi]
  induction n with
  | zero => rfl
  | succ n ih => rw [runSteps_succ_of_step hstep, ih]

/-- Settles O27: while a byte of `out` is sent, `exchanged` drops the response. -/
theorem sentByteResponseDiscarded : Obligations.SentByteResponseDiscarded := by
  intro s q b x y out hs hp hout
  have hnext : q.frame.nextByte = b := by rw [Frame.nextByte, hout, List.headD_cons]
  have hans (z : Byte) : answered (.ok z) s =
      moveTo q (Frame.advance { q.frame with out := out }) (xfer b (.ok z) s) := by
    simp only [answered, hs, hp, Answer.toXfer, exchangeAnswered, hnext, Frame.exchanged, hout]
  rw [hans x, hans y]
  exact ⟨rfl, rfl⟩

end Sys2Proof.Machine
end


section
/-! SUPPORT. Words made of bytes and half-words side by side, as shifts: the command word, the result
registers and the axis samples (30_encoding.md R75; 10_state.md R35, R37; 43_burst.md R166). -/

namespace Sys2Proof

/-- Two patterns side by side. -/
theorem append_eq_or {m n : Nat} (x : BitVec m) (y : BitVec n) :
    x ++ y = x.setWidth (m + n) <<< n ||| y.setWidth (m + n) := by
  ext k hk
  rw [BitVec.getElem_append]
  by_cases h : k < n
  · simp [h]
  · have hm : k - n < m := by omega
    simp [h, hm, y.getLsbD_of_ge k (not_lt.1 h)]

/-- The command word as its fields shifted to their places (30_encoding.md R75). -/
theorem packWord_eq_or (c b a : Byte) (idx opc : BitVec 4) :
    packWord c b a idx opc =
      opc.setWidth 32 ||| idx.setWidth 32 <<< 4 ||| a.setWidth 32 <<< 8 ||| b.setWidth 32 <<< 16 |||
        c.setWidth 32 <<< 24 := by
  ext k hk
  rw [packWord_getElem]
  interval_cases k <;> simp

end Sys2Proof

namespace Sys2Proof.Machine

/-- AXIS_XY: Y above X. -/
theorem axisXyWord_eq_or (x y : Half) :
    axisXyWord x y = y.setWidth 32 <<< 16 ||| x.setWidth 32 :=
  append_eq_or y x

/-- RDATAk: the lower index in the lower byte lane. -/
theorem rdataWord_eq_or (b0 b1 b2 b3 : Byte) :
    rdataWord b0 b1 b2 b3 =
      b0.setWidth 32 ||| b1.setWidth 32 <<< 8 ||| b2.setWidth 32 <<< 16 ||| b3.setWidth 32 <<< 24 := by
  refine BitVec.eq_of_getLsbD_eq fun k hk => ?_
  show (b3 ++ b2 ++ b1 ++ b0).getLsbD k = _
  simp only [BitVec.getLsbD_append]
  interval_cases k <;> simp

/-- A sample is its high byte over its low byte (43_burst.md R166). -/
theorem axisSample_eq_append (lo hi : Byte) : axisSample lo hi = hi ++ lo := by
  rw [append_eq_or, axisSample, BitVec.or_comm]

/-- A sample as a number without sign. -/
theorem toNat_axisSample (lo hi : Byte) : (axisSample lo hi).toNat = hi.toNat * 256 + lo.toNat := by
  rw [axisSample_eq_append]
  show (hi ++ lo).toNat = _
  rw [BitVec.toNat_append, ← Nat.shiftLeft_add_eq_or_of_lt lo.isLt, Nat.shiftLeft_eq]

/-- While BUSY = 0 the register's content is what is read (20_memory.md R63). -/
theorem step_hostRead_of_not_busy {s : State} {off : Nat} {rest : List Input}
    (hc : configOk s.cfg = true) (hmode : s.fsm = .idle ∨ s.fsm = .failed)
    (hin : inContract off 4 = true) (hi : s.inputs = .hostRead off 4 :: rest) :
    step s = .next { s with inputs := rest, hostRead := some (registerAt off (s.withInputs rest)) } := by
  have hbusy : busy (s.withInputs rest) = false := by
    obtain h | h := hmode <;> simp [busy, State.withInputs, h]
  have hread : readsFree off (s.withInputs rest) = false := by rw [readsFree, hbusy, Bool.false_and]
  rw [step_hostRead hc hin hi]
  show Host.Outcome.next (memRead off (s.withInputs rest)) = _
  simp only [memRead, readData, hread]
  rfl

/-- RDATAk holds the four bytes from index `4 * k` on (10_state.md R37). -/
theorem registerAt_rdata (s : State) (k : Fin 8) :
    registerAt (0x20 + 4 * k.val) s =
      rdataWord s.rdata[4 * k.val] s.rdata[4 * k.val + 1] s.rdata[4 * k.val + 2]
        s.rdata[4 * k.val + 3] := by
  have hget (j : Nat) (hj : j < 32) : s.rdata.getD j 0 = s.rdata[j] := by
    simp [Vector.getD, Array.getD, hj]
  unfold registerAt
  repeat rw [if_neg (by omega)]
  rw [Nat.add_sub_cancel_left]
  simp only
  rw [hget _ (by omega), hget _ (by omega), hget _ (by omega), hget _ (by omega)]

end Sys2Proof.Machine
end

section
/-! The obligations on the host registers. -/

namespace Sys2Proof.Machine

/-- Settles O49: neither register holds a result. -/
theorem constantRegistersRead : Obligations.ConstantRegistersRead :=
  fun _ _ hc => ⟨step_hostRead_of_not_isResult hc rfl rfl, step_hostRead_of_not_isResult hc rfl rfl⟩

/-- Settles O50: in IDLE and FAILED the registers' content is read, each word as its lanes. -/
theorem resultRegistersRead : Obligations.ResultRegistersRead := by
  intro s rest hc hmode
  refine ⟨fun hi => ?_, fun hi => ?_, fun k hi => ?_⟩
  · rw [step_hostRead_of_not_busy hc hmode rfl hi, ← axisXyWord_eq_or]
    rfl
  · rw [step_hostRead_of_not_busy hc hmode rfl hi]
    rfl
  · have hin : inContract (0x20 + 4 * k.val) 4 = true :=
      (inContract_word_iff _).2 ⟨by omega, by omega⟩
    rw [step_hostRead_of_not_busy hc hmode hin hi, registerAt_rdata, rdataWord_eq_or]
    rfl

/-- Settles O51: a read inside the contract completes in every mode. -/
theorem resultReadsWhileBusyComplete : Obligations.ResultReadsWhileBusyComplete := by
  intro s off rest hc _ hoff hi
  have hin : inContract off 4 = true := (inContract_word_iff _).2 ⟨by omega, by omega⟩
  exact ⟨_, _, step_hostRead hc hin hi⟩

/-- Settles O53: a read and a write look at the contract first. -/
theorem accessOutsideContractRefused : Obligations.AccessOutsideContractRefused := by
  intro s off width v rest hc hout hi
  have hbad : inContract off width = false := by
    simp only [inContract, Bool.and_eq_false_iff, decide_eq_false_iff_not]
    omega
  obtain hi | hi := hi <;> simp [step, machineStep, hc, takeInput, hi, perform, hbad]

end Sys2Proof.Machine
end

section
/-! SUPPORT. The modify arithmetic under masks (42_rmw.md R144, R148). -/

namespace Sys2Proof.Machine

/-- Bits outside both masks are kept. -/
theorem modifyByte_and_not (cur clear set : Byte) :
    modifyByte cur clear set &&& ~~~(clear ||| set) = cur &&& ~~~(clear ||| set) := by
  ext k hk
  simp [modifyByte]
  cases clear[k] <;> cases set[k] <;> simp

/-- Bits of `set` end 1. -/
theorem modifyByte_and_set (cur clear set : Byte) : modifyByte cur clear set &&& set = set := by
  ext k hk
  simp [modifyByte]
  cases set[k] <;> simp

/-- Doing it twice is doing it once. -/
theorem modifyByte_modifyByte (cur clear set : Byte) :
    modifyByte (modifyByte cur clear set) clear set = modifyByte cur clear set := by
  ext k hk
  simp [modifyByte]
  cases clear[k] <;> cases set[k] <;> simp

/-- When the bits to set lie inside the mask, the mask then reads them and the rest is kept. -/
theorem modifyByte_inside (cur : Byte) {mask set : Byte} (h : set &&& mask = set) :
    modifyByte cur mask set &&& ~~~mask = cur &&& ~~~mask ∧ modifyByte cur mask set &&& mask = set := by
  rw [← h]
  constructor <;>
  · ext k hk
    simp [modifyByte]
    cases mask[k] <;> simp

/-- A legal code fits its field: nothing of it is masked away, and shifted back it is itself
(42_rmw.md R141 (d), R147). -/
theorem fieldSetBits_of_codeOk (cfg : Config) {f : Field} {code : Byte} (h : codeOk f code = true) :
    fieldSetBits (descriptor cfg f) code = code <<< (descriptor cfg f).shift ∧
      (code <<< (descriptor cfg f).shift) >>> (descriptor cfg f).shift = code := by
  cases f <;> revert h <;> simp only [fieldSetBits, descriptor] <;> revert code <;> decide

end Sys2Proof.Machine
end

section
/-! The obligations on the arithmetic. -/

namespace Sys2Proof.Machine

/-- Settles O46: the general masks bit by bit, and a field's code as bits inside its mask. -/
theorem isolationAndIdempotence : Obligations.IsolationAndIdempotence := by
  refine ⟨fun cur clear set => ⟨modifyByte_and_not .., modifyByte_and_set .., modifyByte_modifyByte ..⟩,
    fun cfg f code cur hcode => ?_⟩
  obtain ⟨hset, hback⟩ := fieldSetBits_of_codeOk cfg hcode
  have hinside : fieldSetBits (descriptor cfg f) code &&& (descriptor cfg f).mask =
      fieldSetBits (descriptor cfg f) code := by
    rw [fieldSetBits, BitVec.and_assoc, BitVec.and_self]
  obtain ⟨hkept, hread⟩ := modifyByte_inside cur hinside
  exact ⟨hkept, by rw [hread, hset, hback], hset⟩

/-- Settles O47: the sign bit of the sample is that of the high byte. -/
theorem axisSampleValue : Obligations.AxisSampleValue := by
  intro lo hi
  have hlo := lo.isLt
  rw [BitVec.toInt_eq_toNat_cond, toNat_axisSample]
  split <;> split <;> omega

end Sys2Proof.Machine
end

section
/-! SUPPORT. The events of some interactions, as a function on the engine's state: what they leave in `cs`,
`err`, `prev` and the trace, and that they read and write nothing else (40_primitives.md R101 to R104). -/

namespace Sys2Proof.Machine

/-- The interaction that an event records, with the note of its failure. -/
def Event.apply (s : State) : Event → State
  | .pin l .ok => pinDrive l .ok s
  | .pin l .err => note .pin (pinDrive l .err s)
  | .xfer b (.ok v) => Machine.xfer b (.ok v) s
  | .xfer b .err => note .transport (Machine.xfer b .err s)

/-- The interactions that some events record, oldest first. -/
def applyEvents (evs : List Event) (s : State) : State := evs.foldl Event.apply s

/-- The engine with other contents of the registers that a frame's end writes. -/
def State.withData (s : State) (cur new : Byte) (rdata : Vector Byte 32) : State :=
  { s with cur := cur, new := new, rdata := rdata }

/-- The engine at a place in a frame. -/
def inFrame (op : FrameOp) (f : Frame) (rest : Script) (s : State) : State :=
  { s with seq := .run { op := op, frame := f, rest := rest } }

variable (evs : List Event) (s : State)

@[simp] theorem applyEvents_nil : applyEvents [] s = s := rfl

@[simp] theorem applyEvents_cons (e : Event) : applyEvents (e :: evs) s = applyEvents evs (e.apply s) :=
  rfl

theorem applyEvents_append (evs' : List Event) :
    applyEvents (evs ++ evs') s = applyEvents evs' (applyEvents evs s) :=
  List.foldl_append

@[simp] theorem withData_withData (c n c' n' : Byte) (v v' : Vector Byte 32) :
    (s.withData c n v).withData c' n' v' = s.withData c' n' v' := rfl

/-- No interaction reads or writes the data registers. -/
theorem applyEvents_withData (c n : Byte) (v : Vector Byte 32) :
    applyEvents evs (s.withData c n v) = (applyEvents evs s).withData c n v := by
  induction evs generalizing s with
  | nil => rfl
  | cons e evs ih =>
    have he : e.apply (s.withData c n v) = (e.apply s).withData c n v := by
      cases e with
      | pin l r => cases r <;> rfl
      | xfer b r => cases r <;> rfl
    rw [applyEvents_cons, he, ih, applyEvents_cons]

/-- What interactions write: the line, the errors and the trace. -/
theorem applyEvents_frame :
    ∃ cs err prev, applyEvents evs s =
      { s with cs := cs, err := err, prev := prev, trace := s.trace ++ evs } := by
  induction evs generalizing s with
  | nil => exact ⟨_, _, _, by rw [List.append_nil]; rfl⟩
  | cons e evs ih =>
    obtain ⟨cs, err, prev, h⟩ := ih (e.apply s)
    refine ⟨cs, err, prev, ?_⟩
    rw [applyEvents_cons, h, List.append_cons]
    cases e with
    | pin l r => cases r <;> rfl
    | xfer b r => cases r <;> rfl

@[simp] theorem applyEvents_trace : (applyEvents evs s).trace = s.trace ++ evs := by
  obtain ⟨cs, err, prev, h⟩ := applyEvents_frame evs s
  rw [h]

@[simp] theorem applyEvents_cur : (applyEvents evs s).cur = s.cur := by
  obtain ⟨cs, err, prev, h⟩ := applyEvents_frame evs s
  rw [h]

@[simp] theorem applyEvents_new : (applyEvents evs s).new = s.new := by
  obtain ⟨cs, err, prev, h⟩ := applyEvents_frame evs s
  rw [h]

@[simp] theorem applyEvents_rdata : (applyEvents evs s).rdata = s.rdata := by
  obtain ⟨cs, err, prev, h⟩ := applyEvents_frame evs s
  rw [h]

@[simp] theorem applyEvents_cfg : (applyEvents evs s).cfg = s.cfg := by
  obtain ⟨cs, err, prev, h⟩ := applyEvents_frame evs s
  rw [h]

/-- An interaction does not depend on the place in the frame; the next place is set after it. -/
theorem enterNext_inFrame (sc : Script) (op : FrameOp) (f : Frame) (rest : Script) :
    enterNext sc (inFrame op f rest s) = enterNext sc s := by
  unfold enterNext
  split
  · rfl
  · rfl
  · unfold complete settleResults applyFinish scramble inFrame
    cases sc.finish <;> by_cases h : s.err = .none <;> simp [h]

theorem applyFrame_inFrame (op' : FrameOp) (ok : Bool) (rx : List Byte) (op : FrameOp) (f : Frame)
    (rest : Script) :
    applyFrame op' ok rx (inFrame op f rest s) = inFrame op f rest (applyFrame op' ok rx s) := by
  cases op' <;> cases ok <;> rfl

end Sys2Proof.Machine
end

section
/-! SUPPORT. How one frame can go (40_primitives.md R107 to R111): the answers it uses, the events it
leaves, the bytes it reads and whether it succeeds. It does not depend on the engine's state. -/

namespace Sys2Proof.Machine

/-- The exchanges of a frame, between select and deselect, with `out` left to send and `n` reads left to
make: they are all made, or one fails and is the last. -/
inductive Transfers : List Byte → Nat → List Answer → List Event → List Byte → Bool → Prop
  | done : Transfers [] 0 [] [] [] true
  | sent (b v : Byte) {out n used evs rx ok} (h : Transfers out n used evs rx ok) :
      Transfers (b :: out) n (.ok v :: used) (.xfer b (.ok v) :: evs) rx ok
  | sendFailed (b : Byte) (out : List Byte) (n : Nat) :
      Transfers (b :: out) n [.err] [.xfer b .err] [] false
  | read (v : Byte) {n used evs rx ok} (h : Transfers [] n used evs rx ok) :
      Transfers [] (n + 1) (.ok v :: used) (.xfer dummyByte (.ok v) :: evs) (v :: rx) ok
  | readFailed (n : Nat) : Transfers [] (n + 1) [.err] [.xfer dummyByte .err] [] false

/-- A frame: its select fails, or its exchanges are made; it deselects on every path. -/
inductive FrameRuns (out : List Byte) (n : Nat) :
    List Answer → List Event → List Byte → Bool → Prop
  | notSelected (a : Answer) :
      FrameRuns out n [.err, a] [.pin .low .err, .pin .high a.toPin] [] false
  | selected (d : Byte) (a : Answer) {used evs rx ok} (h : Transfers out n used evs rx ok) :
      FrameRuns out n (.ok d :: (used ++ [a])) (.pin .low .ok :: (evs ++ [.pin .high a.toPin])) rx
        (ok && decide (a.toPin = .ok))

theorem answeredAll_append (answers answers' : List Answer) (s : State) :
    answeredAll (answers ++ answers') s = answeredAll answers' (answeredAll answers s) := by
  induction answers generalizing s with
  | nil => rfl
  | cons a answers ih => exact ih (answered a s)

namespace Frame

/-- `advance` goes to the exchange while one is left. -/
theorem advance_of_left {f : Frame} (h : f.out ≠ [] ∨ f.nread ≠ 0) :
    f.advance = { f with pos := .exchange } := by
  rw [advance, if_neg]
  tauto

end Frame

variable {op : FrameOp} {rest : Script}

/-- The sequencer makes the exchanges of a frame and comes to its deselect. -/
theorem answeredAll_transfers {out : List Byte} {n : Nat} {used : List Answer} {evs : List Event}
    {rx : List Byte} {ok : Bool} (h : Transfers out n used evs rx ok) (p : FramePos)
    (rx₀ : List Byte) (s : State) :
    ∃ out' n', answeredAll used
        (inFrame op (Frame.advance { pos := p, out := out, nread := n, rx := rx₀, ok := true }) rest s) =
      inFrame op { pos := .deselect, out := out', nread := n', rx := rx₀ ++ rx, ok := ok } rest
        (applyEvents evs s) := by
  induction h generalizing p rx₀ s with
  | done => exact ⟨[], 0, by rw [List.append_nil]; rfl⟩
  | sent b v h ih =>
    obtain ⟨out', n', ih⟩ := ih .exchange rx₀ (xfer b (.ok v) s)
    exact ⟨out', n', by rw [Frame.advance_of_left (.inl (List.cons_ne_nil _ _))]; exact ih⟩
  | sendFailed b out n =>
    exact ⟨b :: out, n, by
      rw [Frame.advance_of_left (.inl (List.cons_ne_nil _ _)), List.append_nil]; rfl⟩
  | read v h ih =>
    obtain ⟨out', n', ih⟩ := ih .exchange (rx₀ ++ [v]) (xfer dummyByte (.ok v) s)
    rw [List.append_assoc] at ih
    exact ⟨out', n', by rw [Frame.advance_of_left (.inr (Nat.succ_ne_zero _))]; exact ih⟩
  | readFailed n =>
    exact ⟨[], n + 1, by
      rw [Frame.advance_of_left (.inr (Nat.succ_ne_zero _)), List.append_nil]; rfl⟩

/-- The answer to the deselect ends the frame. -/
theorem answered_deselect (out : List Byte) (n : Nat) (rx : List Byte) (ok : Bool) (a : Answer)
    (s : State) :
    answered a (inFrame op { pos := .deselect, out := out, nread := n, rx := rx, ok := ok } rest s) =
      enterNext (afterFrame (ok && decide (a.toPin = .ok)) rest)
        (applyFrame op (ok && decide (a.toPin = .ok)) rx (Event.apply s (.pin .high a.toPin))) := by
  cases a with
  | ok d =>
    have hok : (ok && decide ((Answer.ok d).toPin = .ok)) = ok := by simp [Answer.toPin]
    rw [hok]
    show enterNext (afterFrame ok rest)
      (applyFrame op ok rx (inFrame op _ rest (pinDrive .high .ok s))) = _
    rw [applyFrame_inFrame, enterNext_inFrame]
    rfl
  | err =>
    have hok : (ok && decide (Answer.err.toPin = .ok)) = false := by simp [Answer.toPin]
    rw [hok]
    show enterNext (afterFrame false rest)
      (applyFrame op false rx (inFrame op _ rest (note .pin (pinDrive .high .err s)))) = _
    rw [applyFrame_inFrame, enterNext_inFrame]
    rfl

/-- The sequencer makes a frame, keeps what the frame leaves, and goes on. -/
theorem answeredAll_frame {used : List Answer} {evs : List Event} {rx : List Byte} {ok : Bool}
    {s : State} (h : FrameRuns (frameOut s.new op) (frameReads op) used evs rx ok) :
    answeredAll used (enterFrame op rest s) =
      enterNext (afterFrame ok rest) (applyFrame op ok rx (applyEvents evs s)) := by
  cases h with
  | notSelected a =>
    exact answered_deselect (frameOut s.new op) (frameReads op) [] false a
      (note .pin (pinDrive .low .err s))
  | selected d a h =>
    rename_i used evs ok
    obtain ⟨out', n', hx⟩ :=
      answeredAll_transfers (op := op) (rest := rest) h .select [] (pinDrive .low .ok s)
    have hstart : answeredAll (.ok d :: used) (enterFrame op rest s) = _ := hx
    rw [← List.cons_append, answeredAll_append, hstart, applyEvents_cons, applyEvents_append]
    exact answered_deselect out' n' rx ok a _

end Sys2Proof.Machine
end

section
/-! SUPPORT. How a whole command can go (42_rmw.md R143, 43_burst.md R162): the answers it uses, and the
effect it has before it completes. It does not depend on the engine's state, but for the configuration. -/

namespace Sys2Proof.Machine

/-- A read-modify-write: its read frame fails and is all, or it read `v` and goes on to its write
frame. `work` is what it leaves in `cur` and `new`. -/
inductive RmwRuns (a clear set : Byte) :
    List Answer → List Event → Option (Byte × Byte) → Bool → Prop
  | notRead {used evs rx} (h : FrameRuns [a ||| 0x80] 1 used evs rx false) :
      RmwRuns a clear set used evs none false
  | written {used evs v used' evs' rx ok} (h : FrameRuns [a ||| 0x80] 1 used evs [v] true)
      (h' : FrameRuns [a, modifyByte v clear set] 0 used' evs' rx ok) :
      RmwRuns a clear set (used ++ used') (evs ++ evs') (some (v, modifyByte v clear set)) ok

/-- What the frames of a command leave: the events, the working registers where it wrote them, and the
bytes for RDATA. -/
structure Effect where
  evs : List Event
  work : Option (Byte × Byte)
  rx : List Byte

/-- The engine with the working registers and RDATA of an effect. -/
def State.withResults (s : State) (w : Option (Byte × Byte)) (rx : List Byte) : State :=
  s.withData (w.getD (s.cur, s.new)).1 (w.getD (s.cur, s.new)).2 (storeBytes rx s.rdata)

/-- The effect on the engine. -/
def Effect.apply (e : Effect) (s : State) : State := (applyEvents e.evs s).withResults e.work e.rx

/-- `burst_core`: the setting of the flag, the data frame if that succeeded, and the clearing of the
flag on every path. -/
inductive BurstRuns (aiReg a : Byte) (n : Nat) : List Answer → Effect → Prop
  | flagNotSet {used evs w used' evs' w' ok} (h : RmwRuns aiReg 0x00 aiMask used evs w false)
      (h' : RmwRuns aiReg aiMask 0x00 used' evs' w' ok) :
      BurstRuns aiReg a n (used ++ used') ⟨evs ++ evs', w'.or w, []⟩
  | dataFrame {used₁ evs₁ w₁ used₂ evs₂ rx ok₂ used₃ evs₃ w₃ ok₃}
      (h₁ : RmwRuns aiReg 0x00 aiMask used₁ evs₁ w₁ true)
      (h₂ : FrameRuns [a ||| 0x80] n used₂ evs₂ rx ok₂)
      (h₃ : RmwRuns aiReg aiMask 0x00 used₃ evs₃ w₃ ok₃) :
      BurstRuns aiReg a n (used₁ ++ (used₂ ++ used₃)) ⟨evs₁ ++ (evs₂ ++ evs₃), w₃.or w₁, rx⟩

/-- The six commands, up to `complete()`. -/
inductive CommandRuns (cfg : Config) : Instr → List Answer → Effect → Prop
  | readReg {a used evs rx ok} (h : FrameRuns [a ||| 0x80] 1 used evs rx ok) :
      CommandRuns cfg (.readReg a) used ⟨evs, none, if ok then rx else []⟩
  | writeReg {a b used evs rx ok} (h : FrameRuns [a, b] 0 used evs rx ok) :
      CommandRuns cfg (.writeReg a b) used ⟨evs, none, []⟩
  | rmw {a clear set used evs w ok} (h : RmwRuns a clear set used evs w ok) :
      CommandRuns cfg (.rmw a clear set) used ⟨evs, w, []⟩
  | setField {f code used evs w ok}
      (h : RmwRuns (descriptor cfg f).reg (descriptor cfg f).mask (fieldSetBits (descriptor cfg f) code)
        used evs w ok) :
      CommandRuns cfg (.setField f code) used ⟨evs, w, []⟩
  | burstRead {a n used e} (h : BurstRuns cfg.aiReg a n.toNat used e) :
      CommandRuns cfg (.burstRead a n) used e
  | readAxes {used e} (h : BurstRuns cfg.aiReg cfg.xlAddr axesCount.toNat used e) :
      CommandRuns cfg .readAxes used e

end Sys2Proof.Machine
end

section
/-! SUPPORT. The sequencer makes the commands as they can go (40_primitives.md R114). -/

namespace Sys2Proof.Machine

/-- A command that wrote nothing leaves the data registers as they are. -/
theorem withResults_none_nil (s : State) : s.withResults none [] = s := by
  simp [State.withResults, State.withData]

/-- No interaction reads or writes what an effect leaves in the data registers. -/
theorem applyEvents_withResults (evs : List Event) (s : State) (w : Option (Byte × Byte))
    (rx : List Byte) :
    applyEvents evs (s.withResults w rx) = (applyEvents evs s).withResults w rx := by
  simp [State.withResults, applyEvents_withData]

/-- Of two writes to the working registers the later one is left. -/
theorem withResults_or (s : State) (w w' : Option (Byte × Byte)) (rx : List Byte) :
    (s.withResults w rx).withResults w' [] = s.withResults (w'.or w) rx := by
  cases w' <;> simp [State.withResults, State.withData]

/-- The sequencer makes a read-modify-write and goes on. -/
theorem answeredAll_rmwCore {a clear set : Byte} {used : List Answer} {evs : List Event}
    {w : Option (Byte × Byte)} {ok : Bool} (h : RmwRuns a clear set used evs w ok) (sc : Script)
    (s : State) :
    answeredAll used (enterNext { sc with todo := rmwCore a clear set ++ sc.todo } s) =
      enterNext (afterFrame ok sc) ((applyEvents evs s).withResults w []) := by
  cases h with
  | @notRead _ _ rx h =>
    have hread := answeredAll_frame (op := .rmwRead a clear set)
      (rest := { sc with todo := .rmwWrite a :: sc.todo }) (s := s) h
    rw [withResults_none_nil]
    exact hread
  | @written used evs v used' evs' rx _ h h' =>
    have hread : answeredAll used
        (enterNext { sc with todo := rmwCore a clear set ++ sc.todo } s) = _ :=
      answeredAll_frame (op := .rmwRead a clear set)
        (rest := { sc with todo := .rmwWrite a :: sc.todo }) (s := s) h
    have hleft : applyFrame (.rmwRead a clear set) true [v] (applyEvents evs s) =
        (applyEvents evs s).withResults (some (v, modifyByte v clear set)) [] := by
      simp [applyFrame, State.withResults, State.withData]
    have hwrite := answeredAll_frame (op := .rmwWrite a) (rest := sc)
      (s := (applyEvents evs s).withResults (some (v, modifyByte v clear set)) []) h'
    rw [applyEvents_withResults] at hwrite
    rw [answeredAll_append, hread, hleft, applyEvents_append]
    exact hwrite

/-- The frames that run on every path are begun when the phase is over. -/
theorem enterNext_cleanup (ops : List FrameOp) (fin : Finish) (s : State) :
    enterNext { todo := [], cleanup := ops, finish := fin } s =
      enterNext { todo := ops, cleanup := [], finish := fin } s := by
  cases ops <;> rfl

/-- After its last frame a command completes, whether or not the frame succeeded. -/
theorem enterNext_afterFrame_last (ok : Bool) (fin : Finish) (s : State) :
    enterNext (afterFrame ok { todo := [], cleanup := [], finish := fin }) s = complete fin s := by
  cases ok <;> rfl

/-- The clearing of the flag is the last phase of a burst. -/
theorem answeredAll_cleanup {aiReg : Byte} {used : List Answer} {evs : List Event}
    {w : Option (Byte × Byte)} {ok : Bool} (h : RmwRuns aiReg aiMask 0x00 used evs w ok)
    (fin : Finish) (s : State) :
    answeredAll used
        (enterNext { todo := [], cleanup := rmwCore aiReg aiMask 0x00, finish := fin } s) =
      complete fin ((applyEvents evs s).withResults w []) := by
  have hrmw := answeredAll_rmwCore h { todo := [], cleanup := [], finish := fin } s
  rw [List.append_nil] at hrmw
  rw [enterNext_cleanup, hrmw, enterNext_afterFrame_last]

/-- The sequencer makes a burst. -/
theorem answeredAll_burstCore {aiReg a n : Byte} {used : List Answer} {e : Effect}
    (h : BurstRuns aiReg a n.toNat used e) (fin : Finish) (s : State) :
    answeredAll used (enterNext (burstScript aiReg a n fin) s) = complete fin (e.apply s) := by
  cases h with
  | @flagNotSet used evs w used' evs' w' ok h h' =>
    have hset : answeredAll used (enterNext (burstScript aiReg a n fin) s) = _ :=
      answeredAll_rmwCore h
        { todo := [.burstData a n], cleanup := rmwCore aiReg aiMask 0x00, finish := fin } s
    rw [answeredAll_append, hset]
    refine (answeredAll_cleanup h' fin _).trans ?_
    rw [applyEvents_withResults, withResults_or, Effect.apply, applyEvents_append]
  | @dataFrame used₁ evs₁ w₁ used₂ evs₂ rx ok₂ used₃ evs₃ w₃ ok₃ h₁ h₂ h₃ =>
    have hset : answeredAll used₁ (enterNext (burstScript aiReg a n fin) s) = _ :=
      answeredAll_rmwCore h₁
        { todo := [.burstData a n], cleanup := rmwCore aiReg aiMask 0x00, finish := fin } s
    have hdata := answeredAll_frame (op := .burstData a n)
      (rest := { todo := [], cleanup := rmwCore aiReg aiMask 0x00, finish := fin })
      (s := (applyEvents evs₁ s).withResults w₁ []) h₂
    have hphase : afterFrame ok₂ { todo := [], cleanup := rmwCore aiReg aiMask 0x00, finish := fin } =
        { todo := [], cleanup := rmwCore aiReg aiMask 0x00, finish := fin } := by
      cases ok₂ <;> rfl
    have hstored : applyFrame (.burstData a n) ok₂ rx
        (applyEvents evs₂ ((applyEvents evs₁ s).withResults w₁ [])) =
          (applyEvents (evs₁ ++ evs₂) s).withResults w₁ rx := by
      rw [applyEvents_withResults, applyEvents_append]
      simp [applyFrame, State.withResults, State.withData]
    rw [hphase, hstored] at hdata
    rw [answeredAll_append, answeredAll_append, hset]
    refine ((congrArg (answeredAll used₃) hdata).trans (answeredAll_cleanup h₃ fin _)).trans ?_
    rw [applyEvents_withResults, withResults_or, Effect.apply, ← applyEvents_append, List.append_assoc]

/-- A single frame is all of READ_REG and WRITE_REG. -/
theorem answeredAll_single {op : FrameOp} {used : List Answer} {evs : List Event} {rx : List Byte}
    {ok : Bool} {s : State} (h : FrameRuns (frameOut s.new op) (frameReads op) used evs rx ok) :
    answeredAll used (enterNext { todo := [op], cleanup := [], finish := .plain } s) =
      complete .plain (applyFrame op ok rx (applyEvents evs s)) :=
  (answeredAll_frame h).trans (enterNext_afterFrame_last ..)

/-- The sequencer makes a read-modify-write that is all of a command. -/
theorem answeredAll_rmwScript {a clear set : Byte} {used : List Answer} {evs : List Event}
    {w : Option (Byte × Byte)} {ok : Bool} (h : RmwRuns a clear set used evs w ok) (s : State) :
    answeredAll used (enterNext (rmwScript a clear set) s) =
      complete .rmwResult (Effect.apply ⟨evs, w, []⟩ s) :=
  (answeredAll_rmwCore h { todo := [], cleanup := [], finish := .rmwResult } s).trans
    (enterNext_afterFrame_last ..)

/-- The sequencer makes every command as it can go, from its first frame to its completion. -/
theorem answeredAll_command {cfg : Config} {i : Instr} {used : List Answer} {e : Effect}
    (h : CommandRuns cfg i used e) (s : State) :
    answeredAll used (enterNext (scriptOf cfg i) s) =
      complete (scriptOf cfg i).finish (e.apply s) := by
  cases h with
  | @readReg a _ evs rx ok h =>
    have hleft : applyFrame (.readReg a) ok rx (applyEvents evs s) =
        Effect.apply ⟨evs, none, if ok then rx else []⟩ s := by
      cases ok
      · exact (withResults_none_nil _).symm
      · rfl
    exact hleft ▸ answeredAll_single (op := .readReg a) h
  | @writeReg a b _ evs rx ok h =>
    have hleft : applyFrame (.writeReg a b) ok rx (applyEvents evs s) =
        Effect.apply ⟨evs, none, []⟩ s := (withResults_none_nil _).symm
    exact hleft ▸ answeredAll_single (op := .writeReg a b) h
  | rmw h => exact answeredAll_rmwScript h s
  | setField h => exact answeredAll_rmwScript h s
  | burstRead h => exact answeredAll_burstCore h .plain s
  | readAxes h => exact answeredAll_burstCore h .axes s

end Sys2Proof.Machine
end

section
/-! SUPPORT. Given enough answers a command can go one way, and then the sequencer has gone that way
(40_primitives.md R116). -/

namespace Sys2Proof.Machine

/-- Enough answers for every byte and read take the exchanges to their end. -/
theorem exists_transfers (out : List Byte) (n : Nat) (answers : List Answer)
    (h : out.length + n ≤ answers.length) :
    ∃ used later evs rx ok, answers = used ++ later ∧ Transfers out n used evs rx ok ∧
      used.length ≤ out.length + n := by
  induction out generalizing answers with
  | nil =>
    induction n generalizing answers with
    | zero => exact ⟨[], answers, _, _, _, rfl, .done, le_rfl⟩
    | succ n ih =>
      match answers with
      | [] => simp at h
      | .err :: later => exact ⟨[.err], later, _, _, _, rfl, .readFailed n, by simp⟩
      | .ok v :: answers =>
        obtain ⟨used, later, _, _, _, rfl, hx, hlen⟩ := ih answers (by simpa using h)
        exact ⟨.ok v :: used, later, _, _, _, rfl, .read v hx, by simpa using hlen⟩
  | cons b out ih =>
    rw [List.length_cons] at h ⊢
    match answers with
    | [] => rw [List.length_nil] at h; omega
    | .err :: later => exact ⟨[.err], later, _, _, _, rfl, .sendFailed b out n, by simp; omega⟩
    | .ok v :: answers =>
      rw [List.length_cons] at h
      obtain ⟨used, later, _, _, _, rfl, hx, hlen⟩ := ih answers (by omega)
      exact ⟨.ok v :: used, later, _, _, _, rfl, .sent b v hx, by rw [List.length_cons]; omega⟩

/-- Two answers more are enough for a frame. -/
theorem exists_frameRuns (out : List Byte) (n : Nat) (answers : List Answer)
    (h : out.length + n + 2 ≤ answers.length) :
    ∃ used later evs rx ok, answers = used ++ later ∧ FrameRuns out n used evs rx ok ∧
      used.length ≤ out.length + n + 2 := by
  match answers with
  | [] => rw [List.length_nil] at h; omega
  | .err :: [] => rw [List.length_singleton] at h; omega
  | .err :: a :: later => exact ⟨[.err, a], later, _, _, _, rfl, .notSelected a, by simp⟩
  | .ok d :: answers =>
    rw [List.length_cons] at h
    obtain ⟨used, later, _, _, _, rfl, hx, hlen⟩ := exists_transfers out n answers (by omega)
    rw [List.length_append] at h
    match later with
    | [] => rw [List.length_nil] at h; omega
    | a :: later =>
      refine ⟨.ok d :: (used ++ [a]), later, _, _, _, by simp, .selected d a hx, ?_⟩
      rw [List.length_cons, List.length_append, List.length_singleton]
      omega

/-- A frame that succeeded made all of its reads. -/
theorem Transfers.length_rx {out : List Byte} {n : Nat} {used : List Answer} {evs : List Event}
    {rx : List Byte} {ok : Bool} (h : Transfers out n used evs rx ok) :
    rx.length ≤ n ∧ (ok = true → rx.length = n) := by
  induction h with
  | done => simp
  | sent b v h ih => exact ih
  | sendFailed b out n => simp
  | read v h ih =>
    obtain ⟨hle, heq⟩ := ih
    exact ⟨by simpa using hle, fun hok => by simpa using heq hok⟩
  | readFailed n => simp

theorem FrameRuns.length_rx {out : List Byte} {n : Nat} {used : List Answer} {evs : List Event}
    {rx : List Byte} {ok : Bool} (h : FrameRuns out n used evs rx ok) :
    rx.length ≤ n ∧ (ok = true → rx.length = n) := by
  cases h with
  | notSelected a => simp
  | selected d a hx =>
    obtain ⟨hle, heq⟩ := hx.length_rx
    refine ⟨hle, fun hok => heq ?_⟩
    rw [Bool.and_eq_true] at hok
    exact hok.1

/-- The read frame of a read-modify-write reads one byte, if it succeeds. -/
theorem FrameRuns.exists_byte {out : List Byte} {used : List Answer} {evs : List Event}
    {rx : List Byte} (h : FrameRuns out 1 used evs rx true) : ∃ v, rx = [v] := by
  obtain ⟨-, hlen⟩ := h.length_rx
  exact List.length_eq_one_iff.1 (hlen rfl)

/-- Eight answers are enough for a read-modify-write. -/
theorem exists_rmwRuns (a clear set : Byte) (answers : List Answer) (h : 8 ≤ answers.length) :
    ∃ used later evs w ok, answers = used ++ later ∧ RmwRuns a clear set used evs w ok ∧
      used.length ≤ 8 := by
  obtain ⟨used, later, evs, rx, ok, rfl, hread, hlen⟩ :=
    exists_frameRuns [a ||| 0x80] 1 answers (by simpa using by omega)
  simp only [List.length_singleton, List.length_append] at hlen h
  cases ok with
  | false => exact ⟨used, later, evs, _, _, rfl, .notRead hread, by omega⟩
  | true =>
    obtain ⟨v, rfl⟩ := hread.exists_byte
    obtain ⟨used', later, evs', rx', ok', rfl, hwrite, hlen'⟩ :=
      exists_frameRuns [a, modifyByte v clear set] 0 later (by simpa using by omega)
    refine ⟨used ++ used', later, _, _, _, (List.append_assoc ..).symm, .written hread hwrite, ?_⟩
    simp only [List.length_cons, List.length_nil, List.length_append] at hlen' ⊢
    omega

/-- A burst takes three more than its bytes, and two read-modify-writes. -/
theorem exists_burstRuns (aiReg a : Byte) (n : Nat) (answers : List Answer)
    (h : n + 19 ≤ answers.length) :
    ∃ used later e, answers = used ++ later ∧ BurstRuns aiReg a n used e := by
  obtain ⟨used₁, later, evs₁, w₁, ok, rfl, h₁, hlen₁⟩ :=
    exists_rmwRuns aiReg 0x00 aiMask answers (by omega)
  rw [List.length_append] at h
  cases ok with
  | false =>
    obtain ⟨used₃, later, evs₃, w₃, ok₃, rfl, h₃, -⟩ :=
      exists_rmwRuns aiReg aiMask 0x00 later (by omega)
    exact ⟨_, later, _, (List.append_assoc ..).symm, .flagNotSet h₁ h₃⟩
  | true =>
    obtain ⟨used₂, later, evs₂, rx, ok₂, rfl, h₂, hlen₂⟩ :=
      exists_frameRuns [a ||| 0x80] n later (by rw [List.length_singleton]; omega)
    rw [List.length_append] at h
    rw [List.length_singleton] at hlen₂
    obtain ⟨used₃, later, evs₃, w₃, ok₃, rfl, h₃, -⟩ :=
      exists_rmwRuns aiReg aiMask 0x00 later (by omega)
    exact ⟨_, later, _, by simp only [List.append_assoc], .dataFrame h₁ h₂ h₃⟩

/-- 51 answers are enough for every well-formed command. -/
theorem exists_commandRuns (cfg : Config) {i : Instr} (hwf : i.wf = true) (answers : List Answer)
    (h : 51 ≤ answers.length) :
    ∃ used later e, answers = used ++ later ∧ CommandRuns cfg i used e := by
  cases i with
  | readReg a =>
    obtain ⟨used, later, _, _, _, hans, hr, -⟩ :=
      exists_frameRuns [a ||| 0x80] 1 answers (by simpa using by omega)
    exact ⟨used, later, _, hans, .readReg hr⟩
  | writeReg a b =>
    obtain ⟨used, later, _, _, _, hans, hr, -⟩ :=
      exists_frameRuns [a, b] 0 answers (by simpa using by omega)
    exact ⟨used, later, _, hans, .writeReg hr⟩
  | rmw a clear set =>
    obtain ⟨used, later, _, _, _, hans, hr, -⟩ := exists_rmwRuns a clear set answers (by omega)
    exact ⟨used, later, _, hans, .rmw hr⟩
  | setField f code =>
    obtain ⟨used, later, _, _, _, hans, hr, -⟩ := exists_rmwRuns (descriptor cfg f).reg
      (descriptor cfg f).mask (fieldSetBits (descriptor cfg f) code) answers (by omega)
    exact ⟨used, later, _, hans, .setField hr⟩
  | burstRead a n =>
    have hn := toNat_le_of_rangeOk hwf
    obtain ⟨used, later, e, hans, hr⟩ := exists_burstRuns cfg.aiReg a n.toNat answers (by omega)
    exact ⟨used, later, e, hans, .burstRead hr⟩
  | readAxes =>
    obtain ⟨used, later, e, hans, hr⟩ := exists_burstRuns cfg.aiReg cfg.xlAddr axesCount.toNat answers
      (le_trans (by decide) h)
    exact ⟨used, later, e, hans, .readAxes hr⟩

/-- The engine after a command with this effect, from an idle one. -/
def commandEnd (i : Instr) (e : Effect) (s : State) : State :=
  complete (scriptOf s.cfg i).finish (e.apply (beginFields i s))

variable {s : State} {i : Instr} {used : List Answer} {e : Effect}

/-- A command on just the answers it uses. -/
theorem run_command (hc : configOk s.cfg = true) (hidle : s.fsm = .idle)
    (hr : CommandRuns s.cfg i used e) {rest : List Input} (hi : s.inputs = answerInputs used ++ rest) :
    ∃ t, exec i s = .next t ∧ runSteps used.length t = .next (commandEnd i e (s.withInputs rest)) :=
  ⟨_, exec_of_idle i hidle,
    (runSteps_begun hc hi).trans (congrArg _ (answeredAll_command hr (beginFields i (s.withInputs rest))))⟩

/-- Answers after completion are ignored (log 12). -/
theorem answeredAll_of_none (answers : List Answer) (h : s.seq = .none) : answeredAll answers s = s := by
  induction answers with
  | nil => rfl
  | cons a answers ih => rw [answeredAll, answered_of_none a h, ih]

/-- A command on answers of which some are left over. -/
theorem run_command_with_surplus (hc : configOk s.cfg = true) (hidle : s.fsm = .idle)
    (hr : CommandRuns s.cfg i used e) {later : List Answer}
    (hi : s.inputs = answerInputs (used ++ later)) :
    ∃ t, exec i s = .next t ∧
      runSteps (used ++ later).length t = .next (commandEnd i e (s.withInputs [])) := by
  refine ⟨_, exec_of_idle i hidle, (runSteps_begun hc (hi.trans (List.append_nil _).symm)).trans ?_⟩
  have hend : (commandEnd i e (s.withInputs [])).seq = .none := rfl
  have hrun : answeredAll used
      (enterNext (scriptOf s.cfg i) (beginFields i (s.withInputs []))) =
        commandEnd i e (s.withInputs []) := answeredAll_command hr _
  rw [answeredAll_append, hrun, answeredAll_of_none later hend]

/-- A well-formed command on 51 answers goes one of its ways, to its end. -/
theorem run_command_51 {answers : List Answer} (hc : configOk s.cfg = true) (hidle : s.fsm = .idle)
    (hwf : i.wf = true) (hlen : answers.length = 51) (hi : s.inputs = answerInputs answers) :
    ∃ t used e, CommandRuns s.cfg i used e ∧ exec i s = .next t ∧
      runSteps 51 t = .next (commandEnd i e (s.withInputs [])) := by
  obtain ⟨used, later, e, rfl, hr⟩ := exists_commandRuns s.cfg hwf answers hlen.ge
  obtain ⟨t, hexec, hrun⟩ := run_command_with_surplus hc hidle hr hi
  exact ⟨t, used, e, hr, hexec, hlen ▸ hrun⟩

theorem commandEnd_trace (i : Instr) (e : Effect) (s : State) :
    (commandEnd i e s).trace = s.trace ++ e.evs := by
  obtain ⟨-, -, -, -, -, -, -, htrace, -⟩ :=
    complete_outcome (scriptOf s.cfg i).finish (e.apply (beginFields i s))
  exact htrace.trans (applyEvents_trace e.evs (beginFields i s))

end Sys2Proof.Machine
end

section
/-! SUPPORT. The spec's pseudocode goes the ways a command can go (40_primitives.md R107, 42_rmw.md R143,
43_burst.md R162): when a program ends, the answers it used and the effect it had are those of one. -/

namespace Sys2Proof.Machine

/-- From `r` to `r'` a program used some answers and made the interactions of some events. -/
structure Run.Makes (r : Run) (used : List Answer) (evs : List Event) (r' : Run) : Prop where
  answers : r.answers = used ++ r'.answers
  st : r'.st = applyEvents evs r.st

namespace Run.Makes

theorem refl (r : Run) : r.Makes [] [] r := ⟨rfl, rfl⟩

theorem trans {r r' r'' : Run} {used used' : List Answer} {evs evs' : List Event}
    (h : r.Makes used evs r') (h' : r'.Makes used' evs' r'') :
    r.Makes (used ++ used') (evs ++ evs') r'' :=
  ⟨by rw [h.answers, h'.answers, List.append_assoc], by rw [h'.st, h.st, applyEvents_append]⟩

end Run.Makes

/-- `select()` is one drive to LOW. -/
theorem Run.select_some {r r' : Run} {ok : Bool} (h : r.select = some (ok, r')) :
    ∃ a : Answer, ok = decide (a.toPin = .ok) ∧ r.Makes [a] [.pin .low a.toPin] r' := by
  obtain ⟨s, answers⟩ := r
  match answers with
  | [] => cases h
  | .ok d :: answers => cases h; exact ⟨.ok d, rfl, rfl, rfl⟩
  | .err :: answers => cases h; exact ⟨.err, rfl, rfl, rfl⟩

/-- `deselect()` is one drive to HIGH. -/
theorem Run.deselect_some {r r' : Run} {ok : Bool} (h : r.deselect = some (ok, r')) :
    ∃ a : Answer, ok = decide (a.toPin = .ok) ∧ r.Makes [a] [.pin .high a.toPin] r' := by
  obtain ⟨s, answers⟩ := r
  match answers with
  | [] => cases h
  | .ok d :: answers => cases h; exact ⟨.ok d, rfl, rfl, rfl⟩
  | .err :: answers => cases h; exact ⟨.err, rfl, rfl, rfl⟩

/-- `Xfer(b)` is one exchange. -/
theorem Run.exchange_some {b : Byte} {r r' : Run} {x : Option Byte} (h : r.exchange b = some (x, r')) :
    (∃ v, x = some v ∧ r.Makes [.ok v] [.xfer b (.ok v)] r') ∨
      x = none ∧ r.Makes [.err] [.xfer b .err] r' := by
  obtain ⟨s, answers⟩ := r
  match answers with
  | [] => cases h
  | .ok v :: answers => cases h; exact .inl ⟨v, rfl, rfl, rfl⟩
  | .err :: answers => cases h; exact .inr ⟨rfl, rfl, rfl⟩

/-- The loop over the reads. -/
theorem Run.readAll_some {n : Nat} {r r' : Run} {ok : Bool} {rx : List Byte}
    (h : Run.readAll n r = some (ok, rx, r')) :
    ∃ used evs, Transfers [] n used evs rx ok ∧ r.Makes used evs r' := by
  induction n generalizing r ok rx with
  | zero =>
    cases h
    exact ⟨[], [], .done, .refl _⟩
  | succ n ih =>
    unfold Run.readAll at h
    split at h
    · cases h
    next r₁ hx =>
      cases h
      obtain ⟨v, hv, -⟩ | ⟨-, hm⟩ := Run.exchange_some hx
      · cases hv
      · exact ⟨_, _, .readFailed n, hm⟩
    next v r₁ hx =>
      split at h
      · cases h
      next ok rx r₂ hrest =>
        cases h
        obtain ⟨v, hv, hm⟩ | ⟨hv, -⟩ := Run.exchange_some hx
        · cases hv
          obtain ⟨used, evs, ht, hm'⟩ := ih hrest
          exact ⟨_, _, .read v ht, hm.trans hm'⟩
        · cases hv

/-- The exchanges of a frame: the bytes of `out`, then the reads. -/
theorem Run.transfer_some {out : List Byte} {n : Nat} {r r' : Run} {ok : Bool} {rx : List Byte}
    (h : r.transfer out n = some (ok, rx, r')) :
    ∃ used evs, Transfers out n used evs rx ok ∧ r.Makes used evs r' := by
  induction out generalizing r with
  | nil => exact Run.readAll_some h
  | cons b out ih =>
    unfold Run.transfer Run.sendAll at h
    cases hx : r.exchange b with
    | none => simp [hx] at h
    | some y =>
      obtain ⟨x, r₁⟩ := y
      obtain ⟨v, rfl, hm⟩ | ⟨rfl, hm⟩ := Run.exchange_some hx
      · simp only [hx] at h
        obtain ⟨used, evs, ht, hm'⟩ := ih (r := r₁) h
        exact ⟨_, _, .sent b v ht, hm.trans hm'⟩
      · simp only [hx] at h
        cases h
        exact ⟨_, _, .sendFailed b out n, hm⟩

/-- A frame. -/
theorem Run.frame_some {out : List Byte} {n : Nat} {r r' : Run} {ok : Bool} {rx : List Byte}
    (h : r.frame out n = some (ok, rx, r')) :
    ∃ used evs, FrameRuns out n used evs rx ok ∧ r.Makes used evs r' := by
  unfold Run.frame at h
  split at h
  · cases h
  next r₁ hs =>
    split at h
    · cases h
    next okD r₂ hd =>
      cases h
      obtain ⟨a, ha, hm⟩ := Run.select_some hs
      obtain ⟨a', -, hm'⟩ := Run.deselect_some hd
      cases a with
      | ok d => cases ha
      | err => exact ⟨_, _, .notSelected a', hm.trans hm'⟩
  next r₁ hs =>
    split at h
    · cases h
    next ok rx r₂ ht =>
      split at h
      · cases h
      next okD r₃ hd =>
        cases h
        obtain ⟨a, ha, hm⟩ := Run.select_some hs
        obtain ⟨used, evs, htransfers, hm'⟩ := Run.transfer_some ht
        obtain ⟨a', rfl, hm''⟩ := Run.deselect_some hd
        cases a with
        | ok d => exact ⟨_, _, .selected d a' htransfers, hm.trans (hm'.trans hm'')⟩
        | err => cases ha

/-- `rmw_core`, and what it leaves in the working registers. -/
theorem Run.rmwCore_some {a clear set : Byte} {r r' : Run} {ok : Bool}
    (h : r.rmwCore a clear set = some (ok, r')) :
    ∃ used evs w, RmwRuns a clear set used evs w ok ∧ r.answers = used ++ r'.answers ∧
      r'.st = (applyEvents evs r.st).withResults w [] := by
  unfold Run.rmwCore at h
  split at h
  · cases h
  next rx r₁ hread =>
    cases h
    obtain ⟨used, evs, hr, hm⟩ := Run.frame_some hread
    exact ⟨used, evs, none, .notRead hr, hm.answers, by rw [hm.st, withResults_none_nil]⟩
  next rx r₁ hread =>
    obtain ⟨used, evs, hr, hm⟩ := Run.frame_some hread
    obtain ⟨v, rfl⟩ := hr.exists_byte
    simp only [List.headD_cons] at h
    split at h
    · cases h
    next okW rxW r₂ hwrite =>
      cases h
      obtain ⟨used', evs', hw, hm'⟩ := Run.frame_some hwrite
      refine ⟨_, _, _, .written hr hw, by rw [hm.answers, List.append_assoc]; exact congrArg _ hm'.answers, ?_⟩
      have hleft : ({ r₁.st with cur := v, new := modifyByte v clear set } : State) =
          r₁.st.withResults (some (v, modifyByte v clear set)) [] := by
        simp [State.withResults, State.withData]
      rw [hm'.st]
      refine (congrArg (applyEvents evs') hleft).trans ?_
      rw [applyEvents_withResults, hm.st, applyEvents_append]

/-- `burst_core`. -/
theorem Run.burstCore_some {a : Byte} {n : Nat} {r r' : Run} (h : r.burstCore a n = some r') :
    ∃ used e, BurstRuns r.st.cfg.aiReg a n used e ∧ r.answers = used ++ r'.answers ∧
      r'.st = e.apply r.st := by
  unfold Run.burstCore at h
  split at h
  · cases h
  next ok r₁ hset =>
    obtain ⟨used₁, evs₁, w₁, h₁, hans₁, hst₁⟩ := Run.rmwCore_some hset
    have hcfg₁ : r₁.st.cfg = r.st.cfg := by rw [hst₁]; exact applyEvents_cfg evs₁ r.st
    cases ok with
    | false =>
      simp only [Bool.false_eq_true, if_false] at h
      split at h
      · cases h
      next ok₃ r₃ hclear =>
        cases h
        obtain ⟨used₃, evs₃, w₃, h₃, hans₃, hst₃⟩ := Run.rmwCore_some hclear
        rw [hcfg₁] at h₃
        refine ⟨_, _, .flagNotSet h₁ h₃, by rw [hans₁, hans₃, List.append_assoc], ?_⟩
        rw [hst₃, hst₁, applyEvents_withResults, withResults_or, ← applyEvents_append]
        rfl
    | true =>
      simp only [if_true] at h
      split at h
      · cases h
      next r₂ hdata =>
        split at hdata
        · cases hdata
        next ok₂ rx r₂ hframe =>
          cases hdata
          split at h
          · cases h
          next ok₃ r₃ hclear =>
            cases h
            obtain ⟨used₂, evs₂, h₂, hm₂⟩ := Run.frame_some hframe
            obtain ⟨used₃, evs₃, w₃, h₃, hans₃, hst₃⟩ := Run.rmwCore_some hclear
            have hcfg₂ : r₂.st.cfg = r.st.cfg := by rw [hm₂.st, applyEvents_cfg, hcfg₁]
            have hstored : ({ r₂.st with rdata := storeBytes rx r₂.st.rdata } : State) =
                (applyEvents (evs₁ ++ evs₂) r.st).withResults w₁ rx := by
              rw [hm₂.st, hst₁, applyEvents_withResults, applyEvents_append]
              simp [State.withResults, State.withData]
            rw [show ({ r₂.st with rdata := storeBytes rx r₂.st.rdata } : State).cfg = r.st.cfg from
              hcfg₂] at h₃
            refine ⟨_, _, .dataFrame h₁ h₂ h₃, ?_, ?_⟩
            · rw [hans₁, hm₂.answers, List.append_assoc, List.append_assoc]
              exact congrArg (fun l => used₁ ++ (used₂ ++ l)) hans₃
            · rw [hst₃]
              refine (congrArg (fun t => (applyEvents evs₃ t).withResults w₃ []) hstored).trans ?_
              rw [applyEvents_withResults, withResults_or, ← applyEvents_append, List.append_assoc]
              rfl

/-- The body of a command, with the finish of the command's script. -/
theorem Run.body_some {i : Instr} {r r' : Run} {fin : Finish} (h : Run.body i r = some (fin, r')) :
    fin = (scriptOf r.st.cfg i).finish ∧ ∃ used e, CommandRuns r.st.cfg i used e ∧
      r.answers = used ++ r'.answers ∧ r'.st = e.apply r.st := by
  cases i with
  | readReg a =>
    simp only [Run.body] at h
    split at h
    · cases h
    next ok rx r₁ hf =>
      obtain ⟨used, evs, hr, hm⟩ := Run.frame_some hf
      cases ok with
      | false =>
        simp only [Bool.false_eq_true, if_false, Option.some.injEq, Prod.mk.injEq] at h
        obtain ⟨rfl, rfl⟩ := h
        exact ⟨rfl, used, _, .readReg hr, hm.answers, hm.st.trans (withResults_none_nil _).symm⟩
      | true =>
        simp only [if_true, Option.some.injEq, Prod.mk.injEq] at h
        obtain ⟨rfl, rfl⟩ := h
        exact ⟨rfl, used, _, .readReg hr, hm.answers, by rw [hm.st]; rfl⟩
  | writeReg a b =>
    obtain ⟨⟨ok, rx, r₁⟩, hf, hx⟩ := Option.map_eq_some_iff.1 h
    cases hx
    obtain ⟨used, evs, hr, hm⟩ := Run.frame_some hf
    exact ⟨rfl, used, _, .writeReg hr, hm.answers, hm.st.trans (withResults_none_nil _).symm⟩
  | rmw a clear set =>
    obtain ⟨⟨ok, r₁⟩, hf, hx⟩ := Option.map_eq_some_iff.1 h
    cases hx
    obtain ⟨used, evs, w, hr, hans, hst⟩ := Run.rmwCore_some hf
    exact ⟨rfl, used, _, .rmw hr, hans, hst⟩
  | setField f code =>
    obtain ⟨⟨ok, r₁⟩, hf, hx⟩ := Option.map_eq_some_iff.1 h
    cases hx
    obtain ⟨used, evs, w, hr, hans, hst⟩ := Run.rmwCore_some hf
    exact ⟨rfl, used, _, .setField hr, hans, hst⟩
  | burstRead a n =>
    obtain ⟨r₁, hf, hx⟩ := Option.map_eq_some_iff.1 h
    cases hx
    obtain ⟨used, e, hr, hans, hst⟩ := Run.burstCore_some hf
    exact ⟨rfl, used, e, .burstRead hr, hans, hst⟩
  | readAxes =>
    obtain ⟨r₁, hf, hx⟩ := Option.map_eq_some_iff.1 h
    cases hx
    obtain ⟨used, e, hr, hans, hst⟩ := Run.burstCore_some hf
    exact ⟨rfl, used, e, .readAxes hr, hans, hst⟩

/-- A command uses at least one answer: it begins running and ends completed. -/
theorem CommandRuns.used_ne_nil {cfg : Config} {i : Instr} {used : List Answer} {e : Effect}
    (h : CommandRuns cfg i used e) : used ≠ [] := by
  rintro rfl
  obtain ⟨op, rest, hn⟩ := enterNext_scriptOf cfg i
  have hend := congrArg State.seq (answeredAll_command h State.reset)
  rw [hn] at hend
  cases hend

theorem applyEvents_withInputs (evs : List Event) (s : State) (l : List Input) :
    applyEvents evs (s.withInputs l) = (applyEvents evs s).withInputs l := by
  induction evs generalizing s with
  | nil => rfl
  | cons e evs ih =>
    have he : e.apply (s.withInputs l) = (e.apply s).withInputs l := by
      cases e with
      | pin l r => cases r <;> rfl
      | xfer b r => cases r <;> rfl
    rw [applyEvents_cons, he, ih, applyEvents_cons]

/-- The effect of a command does not depend on the inputs still to come. -/
theorem commandEnd_withInputs (i : Instr) (e : Effect) (s : State) (l : List Input) :
    commandEnd i e (s.withInputs l) = (commandEnd i e s).withInputs l := by
  have he : e.apply (beginFields i (s.withInputs l)) = (e.apply (beginFields i s)).withInputs l := by
    have hbegun : beginFields i (s.withInputs l) = (beginFields i s).withInputs l := rfl
    rw [hbegun, Effect.apply, applyEvents_withInputs]
    rfl
  exact (congrArg _ he).trans (complete_withInputs _ _ l)

end Sys2Proof.Machine
end

section
/-! The obligation on the pseudocode. -/

namespace Sys2Proof.Machine

/-- Settles O36: a program that ends has gone one of the command's ways, and so does the sequencer on the
answers the program used. -/
theorem sequencerRefinesPseudocode : Obligations.SequencerRefinesPseudocode := by
  intro s i answers rest r hc hidle hwf hi hrun
  unfold runCommand at hrun
  split at hrun
  · cases hrun
  next fin r' hbody =>
    cases hrun
    obtain ⟨rfl, used, e, hr, hans, hst⟩ := Run.body_some hbody
    have hans : answers = used ++ r'.answers := hans
    have hpos := List.length_pos_iff.2 hr.used_ne_nil
    subst hans
    have hi' : s.inputs = answerInputs used ++ (answerInputs r'.answers ++ rest) := by
      rw [hi, answerInputs, List.map_append, List.append_assoc]
      rfl
    obtain ⟨t, hexec, hsteps⟩ := run_command hc hidle hr hi'
    have hless : r'.answers.length < (used ++ r'.answers).length := by
      rw [List.length_append]
      omega
    refine ⟨hless, t, hexec, ?_⟩
    rw [List.length_append, Nat.add_sub_cancel_right, hsteps, commandEnd_withInputs]
    rw [hst]
    rfl

end Sys2Proof.Machine
end

section
/-! SUPPORT. The events of a frame and of a read-modify-write (40_primitives.md R110, R111; 42_rmw.md
R151). -/

namespace Sys2Proof.Machine

variable {out : List Byte} {n : Nat} {used : List Answer} {evs : List Event} {rx : List Byte} {ok : Bool}

/-- The exchanges of a frame and its deselect have the shape of R111 (b), (c). -/
theorem Transfers.shape (h : Transfers out n used evs rx ok) (r : PinResp) :
    exchangesShape (out ++ List.replicate n 0x00) (evs ++ [.pin .high r]) = true := by
  induction h with
  | done => rfl
  | sent b v h ih => simpa [exchangesShape] using ih
  | sendFailed b out n => simp [exchangesShape]
  | read v h ih => simpa [exchangesShape, dummyByte, List.replicate_succ] using ih
  | readFailed n => simp [exchangesShape, dummyByte, List.replicate_succ]

/-- Every frame has the shape of R111. -/
theorem FrameRuns.shape (h : FrameRuns out n used evs rx ok) :
    frameShape (out ++ List.replicate n 0x00) evs = true := by
  cases h with
  | notSelected a => rfl
  | selected d a h => exact h.shape a.toPin

theorem Transfers.any_failed (h : Transfers out n used evs rx ok) :
    evs.any Event.failed = !ok := by
  induction h with
  | done => rfl
  | sent b v h ih => simpa [Event.failed] using ih
  | sendFailed b out n => rfl
  | read v h ih => simpa [Event.failed] using ih
  | readFailed n => rfl

/-- A frame succeeds exactly when none of its interactions failed. -/
theorem FrameRuns.any_failed (h : FrameRuns out n used evs rx ok) :
    evs.any Event.failed = !ok := by
  cases h with
  | notSelected a => rfl
  | selected d a h =>
    have hx := h.any_failed
    cases a <;> simp [Event.failed, Answer.toPin, hx]

/-- The last interaction of every frame is its deselect. -/
theorem FrameRuns.ends_deselected (h : FrameRuns out n used evs rx ok) :
    ∃ evs' r, evs = evs' ++ [.pin .high r] := by
  cases h with
  | notSelected a => exact ⟨[.pin .low .err], _, rfl⟩
  | @selected d a _ evs _ _ h => exact ⟨.pin .low .ok :: evs, _, rfl⟩

/-- The read frame of a read-modify-write, when it succeeds: the byte kept is that of the second
exchange. -/
theorem FrameRuns.eq_okFrame {b v : Byte} (h : FrameRuns [b] 1 used evs [v] true) :
    ∃ hdr, evs = okFrame [(b, hdr), (0x00, v)] := by
  generalize hok : true = ok at h
  cases h with
  | selected d a h =>
    cases a with
    | err => simp [Answer.toPin] at hok
    | ok d' =>
      cases h with
      | sent _ hdr h =>
        cases h with
        | read _ h => cases h; exact ⟨hdr, rfl⟩

namespace RmwRuns

variable {a clear set : Byte} {w : Option (Byte × Byte)}

/-- A read-modify-write makes the trace of R143 and R151. -/
theorem shape (h : RmwRuns a clear set used evs w ok) : RmwShape a clear set evs := by
  cases h with
  | notRead h => exact .inl ⟨h.shape, h.any_failed⟩
  | @written used evs v used' evs' rx _ h h' =>
    obtain ⟨hdr, rfl⟩ := h.eq_okFrame
    have hwrite := h'.shape
    rw [List.replicate_zero, List.append_nil] at hwrite
    exact .inr ⟨hdr, v, evs', rfl, hwrite⟩

theorem any_failed (h : RmwRuns a clear set used evs w ok) : evs.any Event.failed = !ok := by
  cases h with
  | notRead h => exact h.any_failed
  | written h h' => rw [List.any_append, h.any_failed, h'.any_failed]; rfl

theorem ends_deselected (h : RmwRuns a clear set used evs w ok) :
    ∃ evs' r, evs = evs' ++ [.pin .high r] := by
  cases h with
  | notRead h => exact h.ends_deselected
  | @written _ evs _ _ evs' _ _ h h' =>
    obtain ⟨evs'', r, rfl⟩ := h'.ends_deselected
    exact ⟨evs ++ evs'', r, (List.append_assoc ..).symm⟩

end RmwRuns

/-- A burst makes the trace of R162 and R163. -/
theorem BurstRuns.shape {aiReg a : Byte} {e : Effect} (h : BurstRuns aiReg a n used e) :
    BurstShape aiReg a n e.evs := by
  cases h with
  | @flagNotSet _ evs _ _ evs' _ _ h h' =>
    refine ⟨evs, [], evs', by rw [List.append_nil], h.shape, h'.shape, ?_⟩
    rw [h.any_failed]
    rfl
  | @dataFrame _ evs₁ _ _ evs₂ _ _ _ evs₃ _ _ h₁ h₂ h₃ =>
    refine ⟨evs₁, evs₂, evs₃, (List.append_assoc ..).symm, h₁.shape, h₃.shape, ?_⟩
    rw [if_neg (by rw [h₁.any_failed]; decide)]
    exact h₂.shape

theorem BurstRuns.ends_deselected {aiReg a : Byte} {e : Effect} (h : BurstRuns aiReg a n used e) :
    ∃ evs' r, e.evs = evs' ++ [.pin .high r] := by
  cases h with
  | @flagNotSet _ evs _ _ _ _ _ h h' =>
    obtain ⟨evs', r, rfl⟩ := h'.ends_deselected
    exact ⟨evs ++ evs', r, (List.append_assoc ..).symm⟩
  | @dataFrame _ evs₁ _ _ evs₂ _ _ _ _ _ _ h₁ h₂ h₃ =>
    obtain ⟨evs', r, rfl⟩ := h₃.ends_deselected
    exact ⟨evs₁ ++ (evs₂ ++ evs'), r, by simp only [List.append_assoc]⟩

/-- Every command ends with a deselect. -/
theorem CommandRuns.ends_deselected {cfg : Config} {i : Instr} {e : Effect}
    (h : CommandRuns cfg i used e) : ∃ evs' r, e.evs = evs' ++ [.pin .high r] := by
  cases h with
  | readReg h => exact h.ends_deselected
  | writeReg h => exact h.ends_deselected
  | rmw h => exact h.ends_deselected
  | setField h => exact h.ends_deselected
  | burstRead h => exact h.ends_deselected
  | readAxes h => exact h.ends_deselected

end Sys2Proof.Machine
end

section
/-! The obligations on the traces of whole commands. -/

namespace Sys2Proof.Machine

/-- Settles O29: the one frame of the command has the shape of R111. -/
theorem readRegTrace : Obligations.ReadRegTrace := by
  intro s a answers hc hidle ha hlen hi
  obtain ⟨t, used, e, hr, hexec, hrun⟩ := run_command_51 (i := .readReg a) hc hidle ha hlen hi
  refine ⟨t, _, e.evs, hexec, hrun, rfl, rfl, commandEnd_trace .., ?_⟩
  cases hr with
  | readReg h => exact h.shape

/-- Settles O30: the same of WRITE_REG, and no valid address has bit 7. -/
theorem writeRegTrace : Obligations.WriteRegTrace := by
  intro s a b answers hc hidle ha hlen hi
  have hbit : a.getLsbD 7 = false := by
    have hlt : a.toNat < 128 := by
      have := (validAddr_iff a).1 ha
      omega
    rw [BitVec.getLsbD, Nat.testBit_lt_two_pow hlt]
  obtain ⟨t, used, e, hr, hexec, hrun⟩ := run_command_51 (i := .writeReg a b) hc hidle ha hlen hi
  refine ⟨hbit, t, _, e.evs, hexec, hrun, rfl, rfl, commandEnd_trace .., ?_⟩
  cases hr with
  | writeReg h => exact h.shape

/-- Settles O31: the two ways a read-modify-write can go are the two cases of its shape. -/
theorem rmwTrace : Obligations.RmwTrace := by
  intro s a clear set answers hc hidle ha hlen hi
  obtain ⟨t, used, e, hr, hexec, hrun⟩ :=
    run_command_51 (i := .rmw a clear set) hc hidle ha hlen hi
  refine ⟨t, _, e.evs, hexec, hrun, commandEnd_trace .., ?_⟩
  cases hr with
  | rmw h => exact h.shape

/-- Settles O32: a SET_FIELD is the read-modify-write of its row of the field table, and nothing of a
legal code is masked away. -/
theorem setFieldTrace : Obligations.SetFieldTrace := by
  intro s f code answers hc hidle hcode hlen hi
  obtain ⟨t, used, e, hr, hexec, hrun⟩ :=
    run_command_51 (i := .setField f code) hc hidle hcode hlen hi
  refine ⟨t, _, e.evs, hexec, hrun, commandEnd_trace .., ?_⟩
  obtain ⟨hset, -⟩ := fieldSetBits_of_codeOk s.cfg hcode
  cases hr with
  | setField h =>
    have hshape := h.shape
    rw [hset] at hshape
    cases f with
    | lpMode => simpa [descriptor] using hshape
    | _ => exact hshape

/-- Settles O33: both commands are bursts. -/
theorem burstTrace : Obligations.BurstTrace := by
  intro s a n answers hc hidle hr hlen hi
  constructor
  · obtain ⟨t, used, e, hruns, hexec, hrun⟩ :=
      run_command_51 (i := .burstRead a n) hc hidle hr hlen hi
    refine ⟨t, _, e.evs, hexec, hrun, commandEnd_trace .., ?_⟩
    cases hruns with
    | burstRead h => exact h.shape
  · obtain ⟨t, used, e, hruns, hexec, hrun⟩ := run_command_51 (i := .readAxes) hc hidle rfl hlen hi
    refine ⟨t, _, e.evs, hexec, hrun, commandEnd_trace .., ?_⟩
    cases hruns with
    | readAxes h => exact h.shape

/-- Settles O34: the last event is a drive to HIGH, and completion leaves the line and the error as that
drive did. -/
theorem everyCommandEndsDeselected : Obligations.EveryCommandEndsDeselected := by
  intro s i answers hc hidle hwf hlen hi
  obtain ⟨t, used, e, hr, hexec, hrun⟩ := run_command_51 hc hidle hwf hlen hi
  obtain ⟨evs, r, hevs⟩ := hr.ends_deselected
  obtain ⟨-, -, -, -, herr, -, hcs, -, -⟩ := complete_outcome
    (scriptOf s.cfg i).finish (e.apply (beginFields i (s.withInputs [])))
  have htrace := commandEnd_trace i e (s.withInputs [])
  have hlast : applyEvents e.evs (beginFields i (s.withInputs [])) =
      Event.apply (applyEvents evs (beginFields i (s.withInputs []))) (.pin .high r) := by
    rw [hevs, applyEvents_append]
    rfl
  rw [hevs, ← List.append_assoc] at htrace
  refine ⟨t, _, evs, hexec, hrun, ?_⟩
  cases r with
  | ok => exact .inl ⟨htrace, hcs.trans (congrArg State.cs hlast)⟩
  | err =>
    exact .inr ⟨htrace, hcs.trans (congrArg State.cs hlast), herr.trans (congrArg State.err hlast)⟩

end Sys2Proof.Machine
end

section
/-! SUPPORT. A command none of whose interactions fails takes as many answers as its script has interactions
(40_primitives.md R116). -/

namespace Sys2Proof.Machine

/-- A command is running, and the frame it is in has not failed. -/
def RunsOk (s : State) : Prop := s.fsm = .run ∧ ∃ q, s.seq = .run q ∧ q.frame.ok = true

/-- While frames are left a command goes on with the next one. -/
theorem runsOk_enterNext {sc : Script} {s : State} (hfsm : s.fsm = .run) (h : 0 < sc.interactions) :
    RunsOk (enterNext sc s) := by
  obtain ⟨op, todo, -, hn⟩ | ⟨op, cleanup, -, -, hn⟩ | ⟨ht, hcl, -⟩ := enterNext_cases sc s
  · rw [hn]
    exact ⟨hfsm, _, rfl, rfl⟩
  · rw [hn]
    exact ⟨hfsm, _, rfl, rfl⟩
  · simp [Script.interactions, ht, hcl] at h

/-- A success uses up exactly one interaction, and leaves the command running while more than that one
is left. -/
theorem RunsOk.answered_ok {s : State} (h : RunsOk s) (v : Byte) :
    (answered (.ok v) s).seq.interactionsLeft = s.seq.interactionsLeft - 1 ∧
      (1 < s.seq.interactionsLeft → RunsOk (answered (.ok v) s)) := by
  obtain ⟨hfsm, q, hs, hok⟩ := h
  obtain ⟨hn, -⟩ | ⟨hn, -⟩ | ⟨q', hq, hcase⟩ := answered_cases (.ok v) s
  · cases hs.symm.trans hn
  · cases hs.symm.trans hn
  cases hs.symm.trans hq
  obtain ⟨hp, ha⟩ | ⟨hp, ha⟩ | ⟨hp, ha⟩ := hcase
  · rw [ha, hs, Seq.interactionsLeft, Frame.interactionsLeft_select hp]
    refine ⟨?_, fun _ => ⟨hfsm, _, rfl, (Frame.advance_ok _).trans hok⟩⟩
    have hf := q.frame.interactionsLeft_advance
    simp only [Answer.toPin, selectAnswered, moveTo_seq, Seq.interactionsLeft]
    omega
  · rw [ha, hs, Seq.interactionsLeft, Frame.interactionsLeft_exchange hp]
    refine ⟨?_, fun _ => ⟨hfsm, _, rfl, (Frame.exchanged_ok _ v).trans hok⟩⟩
    have hf := q.frame.interactionsLeft_exchanged v
    simp only [Answer.toXfer, exchangeAnswered, moveTo_seq, Seq.interactionsLeft]
    omega
  · obtain ⟨c, n, d, happly⟩ := applyFrame_frame q.op q.frame.ok q.frame.rx (pinDrive .high .ok s)
    have hend : deselectAnswered q .ok s =
        enterNext q.rest ((pinDrive .high .ok s).withData c n d) := by
      rw [deselectAnswered, endFrame, happly, hok, afterFrame, if_pos rfl]
      rfl
    rw [ha, hs, Seq.interactionsLeft, Frame.interactionsLeft_deselect hp, Nat.add_sub_cancel_left,
      Answer.toPin, hend]
    exact ⟨interactionsLeft_enterNext .., fun hleft => runsOk_enterNext hfsm (by omega)⟩

/-- With fewer successes than interactions left a command is running still. -/
theorem RunsOk.answeredAll_ok {data : List Byte} {s : State} (h : RunsOk s)
    (hlen : data.length < s.seq.interactionsLeft) : RunsOk (answeredAll (okAnswers data) s) := by
  induction data generalizing s with
  | nil => exact h
  | cons v data ih =>
    rw [List.length_cons] at hlen
    obtain ⟨hleft, hruns⟩ := h.answered_ok v
    exact ih (hruns (by omega)) (by omega)

end Sys2Proof.Machine
end

section
/-! SUPPORT. What `complete()` does to the data registers (40_primitives.md R115, 10_state.md R27, R28). -/

namespace Sys2Proof.Machine

/-- Entries from the list's length on keep their values. -/
theorem storeBytes_get_of_le {rx : List Byte} (v : Vector Byte 32) {k : Nat} (hk : k < 32)
    (h : rx.length ≤ k) : (storeBytes rx v)[k] = v[k] := by
  rw [storeBytes_get rx v k hk, dif_neg (not_lt.2 h)]

/-- A list that is no shorter hides what was stored before. -/
theorem storeBytes_storeBytes {rx rx' : List Byte} (v : Vector Byte 32) (h : rx.length ≤ rx'.length) :
    storeBytes rx' (storeBytes rx v) = storeBytes rx' v := by
  refine Vector.ext fun k hk => ?_
  by_cases hlt : k < rx'.length
  · rw [storeBytes_get _ _ k hk, storeBytes_get rx' v k hk, dif_pos hlt, dif_pos hlt]
  · rw [storeBytes_get_of_le _ hk (not_lt.1 hlt), storeBytes_get_of_le v hk (by omega),
      storeBytes_get_of_le v hk (not_lt.1 hlt)]

theorem applyFinish_rcount (fin : Finish) (s : State) : (applyFinish fin s).rcount = s.rcount := by
  cases fin with
  | axes => by_cases he : s.err = .none <;> simp [applyFinish, he]
  | _ => simp [applyFinish]

/-- A command's finish writes RDATA for a read-modify-write only, below 2. -/
theorem applyFinish_rdata_of_le {fin : Finish} (s : State) {k : Nat} (hk : k < 32)
    (hrmw : fin = .rmwResult → 2 ≤ k) : (applyFinish fin s).rdata[k] = s.rdata[k] := by
  cases fin with
  | plain => simp [applyFinish]
  | rmwResult =>
    simp only [applyFinish]
    exact storeBytes_get_of_le s.rdata hk (hrmw rfl)
  | axes => by_cases he : s.err = .none <;> simp [applyFinish, he]

/-- Completion writes RDATA below `rcount` only, and below 2 for a read-modify-write. -/
theorem complete_rdata_of_le {fin : Finish} {s : State} {k : Nat} (hk : k < 32)
    (h : s.rcount.toNat ≤ k) (hrmw : fin = .rmwResult → 2 ≤ k) :
    (complete fin s).rdata[k] = s.rdata[k] := by
  have hfinish := applyFinish_rdata_of_le s hk hrmw
  simp only [complete, settleResults]
  split
  · exact hfinish
  · refine (storeBytes_get_of_le _ hk ?_).trans hfinish
    rw [List.length_map, List.length_range, applyFinish_rcount]
    exact h

/-- Only READ_AXES completes with a write to the axis registers. -/
theorem complete_axes_of_ne {fin : Finish} (s : State) (h : fin ≠ .axes) :
    (complete fin s).axisX = s.axisX ∧ (complete fin s).axisY = s.axisY ∧
      (complete fin s).axisZ = s.axisZ ∧ (complete fin s).axisValid = s.axisValid := by
  cases fin with
  | axes => exact absurd rfl h
  | _ => by_cases he : s.err = .none <;>
      simp [complete, settleResults, applyFinish, scramble, he]

/-- READ_AXES sets `axis_valid` exactly when nothing failed. -/
theorem complete_axisValid {s : State} (h : s.axisValid = false) :
    (complete .axes s).axisValid = decide (s.err = .none) := by
  by_cases he : s.err = .none <;> simp [complete, settleResults, applyFinish, scramble, he, h]

/-- Completion reads the working registers only to return the result of a read-modify-write, and what a
failed one returned is unspecified. -/
theorem complete_withWorking {fin : Finish} {s : State} (c n : Byte)
    (h : fin = .rmwResult → s.err ≠ .none ∧ 2 ≤ s.rcount.toNat) :
    complete fin { s with cur := c, new := n } = { complete fin s with cur := c, new := n } := by
  cases fin with
  | rmwResult =>
    obtain ⟨he, hcount⟩ := h rfl
    have hhide (a b : Byte) : storeBytes ((List.range s.rcount.toNat).map (Config.freeByte s.draws))
        (storeBytes [a, b] s.rdata) =
          storeBytes ((List.range s.rcount.toNat).map (Config.freeByte s.draws)) s.rdata :=
      storeBytes_storeBytes _ (by simpa using hcount)
    simp [complete, settleResults, applyFinish, scramble, he, hhide]
  | _ => by_cases he : s.err = .none <;>
      simp [complete, settleResults, applyFinish, scramble, he]

/-- A failure among some interactions is reported after them. -/
theorem applyEvents_err_ne_none {evs : List Event} {s : State}
    (h : evs.any Event.failed = true ∨ s.err ≠ .none) : (applyEvents evs s).err ≠ .none := by
  induction evs generalizing s with
  | nil => simpa using h
  | cons e evs ih =>
    refine ih ?_
    cases e with
    | pin l r => cases r <;> simp_all [Event.failed, Event.apply]
    | xfer b r => cases r <;> simp_all [Event.failed, Event.apply]

end Sys2Proof.Machine
end

section
/-! SUPPORT. What an effect leaves unchanged, and how it depends on the working registers (10_state.md R26
to R31). -/

namespace Sys2Proof.Machine

/-- The fields that no effect writes. -/
theorem apply_keeps (e : Effect) (s : State) :
    (e.apply s).axisX = s.axisX ∧ (e.apply s).axisY = s.axisY ∧ (e.apply s).axisZ = s.axisZ ∧
      (e.apply s).axisValid = s.axisValid ∧ (e.apply s).cmd = s.cmd ∧
      (e.apply s).rcount = s.rcount ∧ (e.apply s).reject = s.reject ∧
      (e.apply s).rejReason = s.rejReason ∧ (e.apply s).initFail = s.initFail ∧
      (e.apply s).cfg = s.cfg ∧ (e.apply s).hostRead = s.hostRead := by
  obtain ⟨cs, err, prev, h⟩ := applyEvents_frame e.evs s
  rw [Effect.apply, h]
  exact ⟨rfl, rfl, rfl, rfl, rfl, rfl, rfl, rfl, rfl, rfl, rfl⟩

theorem apply_rdata (e : Effect) (s : State) : (e.apply s).rdata = storeBytes e.rx s.rdata :=
  congrArg (storeBytes e.rx) (applyEvents_rdata e.evs s)

/-- The interactions leave other contents of the working registers where they are. -/
theorem applyEvents_withWorking (evs : List Event) (s : State) (c n : Byte) :
    applyEvents evs { s with cur := c, new := n } =
      { applyEvents evs s with cur := c, new := n } :=
  (applyEvents_withData evs s c n s.rdata).trans
    (congrArg (State.withData _ c n) (applyEvents_rdata evs s).symm)

/-- An effect that writes the working registers leaves nothing of their old contents. -/
theorem apply_withWorking_of_some {e : Effect} {w : Byte × Byte} (h : e.work = some w) (s : State)
    (c n : Byte) : e.apply { s with cur := c, new := n } = e.apply s := by
  rw [Effect.apply, applyEvents_withWorking, Effect.apply, h]
  rfl

/-- An effect that does not write them leaves their old contents, and is the same otherwise. -/
theorem apply_withWorking_of_none {e : Effect} (h : e.work = none) (s : State) (c n : Byte) :
    e.apply { s with cur := c, new := n } = { e.apply s with cur := c, new := n } := by
  rw [Effect.apply, applyEvents_withWorking, Effect.apply, h]
  rfl

end Sys2Proof.Machine
end

section
/-! SUPPORT. What a command leaves in the data registers (10_state.md R26 to R30). -/

namespace Sys2Proof.Machine

variable {cfg : Config} {i : Instr} {used : List Answer} {e : Effect}

/-- A burst stores no more bytes than it was asked for. -/
theorem BurstRuns.length_rx {aiReg a : Byte} {n : Nat} (h : BurstRuns aiReg a n used e) :
    e.rx.length ≤ n := by
  cases h with
  | flagNotSet h h' => exact Nat.zero_le n
  | dataFrame h₁ h₂ h₃ => exact h₂.length_rx.1

/-- The count of a burst, at six bits. -/
theorem toNat_setWidth_of_rangeOk {a n : Byte} (h : rangeOk a n = true) :
    (n.setWidth 6).toNat = n.toNat := by
  have hn := toNat_le_of_rangeOk h
  rw [BitVec.toNat_setWidth]
  omega

/-- No command stores more bytes than it returns. -/
theorem CommandRuns.length_rx (h : CommandRuns cfg i used e) (hwf : i.wf = true) :
    e.rx.length ≤ (resultCount i).toNat := by
  cases h with
  | @readReg _ _ _ rx ok h =>
    have hlen : rx.length ≤ 1 := h.length_rx.1
    cases ok with
    | false => exact Nat.zero_le _
    | true => exact hlen
  | writeReg h => exact Nat.zero_le _
  | rmw h => exact Nat.zero_le _
  | setField h => exact Nat.zero_le _
  | burstRead h => exact h.length_rx.trans (toNat_setWidth_of_rangeOk hwf).ge
  | readAxes h => exact h.length_rx

/-- A read-modify-write command returns two bytes. -/
theorem resultCount_of_rmwResult (h : (scriptOf cfg i).finish = .rmwResult) : resultCount i = 2 := by
  cases i with
  | rmw a clear set => rfl
  | setField f code => rfl
  | _ => cases h

/-- READ_AXES is the command that ends with the axis reassembly. -/
theorem finish_eq_axes_iff : (scriptOf cfg i).finish = .axes ↔ i = .readAxes := by
  cases i <;> simp [scriptOf, readRegScript, writeRegScript, rmwScript, burstScript]

/-- A read-modify-write command that left its working registers alone has failed. -/
theorem CommandRuns.any_failed_of_work_eq_none (h : CommandRuns cfg i used e)
    (hfin : (scriptOf cfg i).finish = .rmwResult) (hwork : e.work = none) :
    e.evs.any Event.failed = true := by
  cases h with
  | rmw h =>
    cases h with
    | notRead h => exact h.any_failed
    | written h h' => cases hwork
  | setField h =>
    cases h with
    | notRead h => exact h.any_failed
    | written h h' => cases hwork
  | readReg h => cases hfin
  | writeReg h => cases hfin
  | burstRead h => cases hfin
  | readAxes h => cases hfin

end Sys2Proof.Machine
end

section
/-! The obligations on the length and the frame of whole commands. -/

namespace Sys2Proof.Machine

/-- Settles O35: 51 answers take every command to its end; and a burst of 32 bytes has 51 interactions,
each of which takes one of the successes. -/
theorem everyCommandCompletesIn51 : Obligations.EveryCommandCompletesIn51 := by
  constructor
  · intro s i answers hc hidle hwf hlen hi
    obtain ⟨t, used, e, -, hexec, hrun⟩ := run_command_51 hc hidle hwf hlen hi
    obtain ⟨hfsm, hdone, hseq, -⟩ := complete_outcome
      (scriptOf s.cfg i).finish (e.apply (beginFields i (s.withInputs [])))
    have hinputs : (commandEnd i e (s.withInputs [])).inputs = [] := by
      rw [commandEnd_withInputs, withInputs_inputs]
    exact ⟨t, _, hexec, hrun, hfsm, hdone, hseq, hinputs⟩
  · intro s data hc hidle hlen hi
    have hbegun : RunsOk (enterNext (scriptOf s.cfg (.burstRead 0x20 32))
        (beginFields (.burstRead 0x20 32) (s.withInputs []))) :=
      runsOk_enterNext rfl (by rw [scriptOf, interactions_burstScript]; decide)
    have hruns := hbegun.answeredAll_ok (data := data) (by
      rw [interactionsLeft_enterNext, scriptOf, interactions_burstScript, hlen]
      decide)
    have hrun := runSteps_begun (i := .burstRead 0x20 32) hc (hi.trans (List.append_nil _).symm)
    rw [okAnswers, List.length_map, hlen] at hrun
    exact ⟨_, _, exec_of_idle _ hidle, hrun, hruns.1⟩

/-- Settles O37: interactions write no data, the frames store below `rcount`, and completion does the
rest by the command's finish. -/
theorem commandsKeepTheRest : Obligations.CommandsKeepTheRest := by
  intro s i answers hc hidle hwf hlen hi
  obtain ⟨t, used, e, hr, hexec, hrun⟩ := run_command_51 hc hidle hwf hlen hi
  obtain ⟨hx, hy, hz, hav, hcmd, hcount, hreject, hreason, hinit, hcfg, hread⟩ :=
    apply_keeps e (beginFields i (s.withInputs []))
  have hrdata := apply_rdata e (beginFields i (s.withInputs []))
  have hrun : runSteps 51 t = .next (complete (scriptOf s.cfg i).finish
    (e.apply (beginFields i (s.withInputs [])))) := hrun
  generalize e.apply (beginFields i (s.withInputs [])) = u at *
  obtain ⟨-, -, -, hvalid', -, -, -, -, hcount'⟩ := complete_outcome (scriptOf s.cfg i).finish u
  obtain ⟨hcfg', -, hcmd', hreject', hreason', hinit', hread'⟩ :=
    complete_frame (scriptOf s.cfg i).finish u
  refine ⟨t, _, hexec, hrun, fun k hk => ?_, fun hne => ?_, fun heq => ?_, hcmd'.trans hcmd,
    hcount'.trans hcount, hreject'.trans hreject, hreason'.trans hreason, hinit'.trans hinit,
    hcfg'.trans hcfg, hread'.trans hread⟩
  · have hk : (resultCount i).toNat ≤ k.val := by rwa [hcount', hcount] at hk
    have hlen := hr.length_rx hwf
    have hrmw (hfin : (scriptOf s.cfg i).finish = .rmwResult) : 2 ≤ k.val := by
      rwa [resultCount_of_rmwResult hfin] at hk
    calc (complete (scriptOf s.cfg i).finish u).rdata[k.val] = u.rdata[k.val] :=
          complete_rdata_of_le k.isLt (hcount.symm ▸ hk) hrmw
      _ = (storeBytes e.rx s.rdata)[k.val] := by rw [hrdata]; rfl
      _ = s.rdata[k.val] := storeBytes_get_of_le _ k.isLt (hlen.trans hk)
  · obtain ⟨hx', hy', hz', hav'⟩ := complete_axes_of_ne u (fin := (scriptOf s.cfg i).finish)
      (fun h => hne (finish_eq_axes_iff.1 h))
    exact ⟨hx'.trans hx, hy'.trans hy, hz'.trans hz, hav'.trans (hav.trans (if_neg hne))⟩
  · subst heq
    exact (complete_axisValid hav).trans hvalid'.symm

/-- Settles O38: where a command writes the working registers nothing is left of their old contents, and
where it does not, completion does not return them. -/
theorem workingRegistersNotReused : Obligations.WorkingRegistersNotReused := by
  intro s i c n answers hc hidle hwf hlen hi
  obtain ⟨used, later, e, rfl, hr⟩ := exists_commandRuns s.cfg hwf answers hlen.ge
  obtain ⟨t, hexec, hrun⟩ := run_command_with_surplus hc hidle hr hi
  obtain ⟨t', hexec', hrun'⟩ :=
    run_command_with_surplus (s := { s with cur := c, new := n }) hc hidle hr hi
  rw [hlen] at hrun hrun'
  refine ⟨t, _, t', _, hexec, hrun, hexec', hrun', ?_⟩
  have hend' : commandEnd i e (State.withInputs { s with cur := c, new := n } []) =
      complete (scriptOf s.cfg i).finish
        (e.apply { beginFields i (s.withInputs []) with cur := c, new := n }) := rfl
  cases hwork : e.work with
  | some w =>
    rw [hend', apply_withWorking_of_some hwork]
    rfl
  | none =>
    have hfailed (hfin : (scriptOf s.cfg i).finish = .rmwResult) :
        (e.apply (beginFields i (s.withInputs []))).err ≠ .none ∧
          2 ≤ (e.apply (beginFields i (s.withInputs []))).rcount.toNat := by
      obtain ⟨-, -, -, -, -, hcount, -⟩ := apply_keeps e (beginFields i (s.withInputs []))
      have htwo : (beginFields i (s.withInputs [])).rcount = 2 := resultCount_of_rmwResult hfin
      exact ⟨applyEvents_err_ne_none (.inl (hr.any_failed_of_work_eq_none hfin hwork)),
        by rw [hcount, htwo]; decide⟩
    rw [hend', apply_withWorking_of_none hwork, complete_withWorking c n hfailed]
    rfl

end Sys2Proof.Machine
end

section
/-! SUPPORT. Frames and read-modify-writes in which every interaction succeeds (40_primitives.md R111 (c)). -/

namespace Sys2Proof.Machine

/-- Exchanges that all succeed: the pairs of bytes sent and answered, then the bytes read. -/
theorem okTransfers (sent : List (Byte × Byte)) (data : List Byte) :
    Transfers (sent.map Prod.fst) data.length (okAnswers (sent.map Prod.snd ++ data))
      ((sent ++ data.map fun v => (0x00, v)).map fun x : Byte × Byte => .xfer x.1 (.ok x.2)) data true := by
  induction sent with
  | nil =>
    induction data with
    | nil => exact .done
    | cons v data ih => exact .read v ih
  | cons x sent ih => exact .sent x.1 x.2 ih

/-- A frame that succeeds. -/
theorem okFrameRuns (d e : Byte) (sent : List (Byte × Byte)) (data : List Byte) :
    FrameRuns (sent.map Prod.fst) data.length (okAnswers (d :: (sent.map Prod.snd ++ data ++ [e])))
      (okFrame (sent ++ data.map fun v => (0x00, v))) data true := by
  have h : FrameRuns _ _ (.ok d :: (_ ++ [.ok e])) (.pin .low .ok :: (_ ++ [.pin .high .ok])) _ true :=
    .selected d (.ok e) (okTransfers sent data)
  rwa [show (.ok d :: (okAnswers (sent.map Prod.snd ++ data) ++ [.ok e]) : List Answer) =
    okAnswers (d :: (sent.map Prod.snd ++ data ++ [e])) by simp [okAnswers]] at h

/-- A read-modify-write that succeeds reads `v` and writes the modified byte. -/
theorem okRmwRuns (a clear set d h v e d' x y e' : Byte) :
    RmwRuns a clear set (okAnswers [d, h, v, e, d', x, y, e'])
      (okFrame [(a ||| 0x80, h), (0x00, v)] ++ okFrame [(a, x), (modifyByte v clear set, y)])
      (some (v, modifyByte v clear set)) true :=
  .written (okFrameRuns d e [(a ||| 0x80, h)] [v])
    (okFrameRuns d' e' [(a, x), (modifyByte v clear set, y)] [])

/-- Interactions that all succeed, the last of them a deselect: they leave the line HIGH and report
nothing. -/
def AllOk (evs : List Event) : Prop :=
  ∀ s, applyEvents evs s = { s with cs := .high, trace := s.trace ++ evs }

theorem AllOk.append {evs evs' : List Event} (h : AllOk evs) (h' : AllOk evs') :
    AllOk (evs ++ evs') := by
  intro s
  rw [applyEvents_append, h s, h', ← List.append_assoc]

theorem applyEvents_exchanges_ok (exchanges : List (Byte × Byte)) (s : State) :
    applyEvents (exchanges.map fun x => .xfer x.1 (.ok x.2)) s =
      { s with trace := s.trace ++ exchanges.map fun x => .xfer x.1 (.ok x.2) } := by
  induction exchanges generalizing s with
  | nil => simp
  | cons x exchanges ih =>
    rw [List.map_cons, applyEvents_cons, ih]
    simp [Event.apply, xfer]

theorem allOk_okFrame (exchanges : List (Byte × Byte)) : AllOk (okFrame exchanges) := by
  intro s
  rw [okFrame, List.cons_append, applyEvents_cons, applyEvents_append, applyEvents_exchanges_ok]
  simp [Event.apply, pinDrive, Level.toCs]

/-- One byte more is one entry more. -/
theorem storeBytes_concat (rx : List Byte) (b : Byte) (v : Vector Byte 32) (h : rx.length < 32) :
    storeBytes (rx ++ [b]) v = (storeBytes rx v).set rx.length b := by
  refine Vector.ext fun k hk => ?_
  rw [storeBytes_get _ _ k hk, Vector.getElem_set, storeBytes_get _ _ k hk]
  obtain hlt | heq | hgt := lt_trichotomy k rx.length
  · simp [hlt, hlt.ne', Nat.lt_succ_of_lt hlt]
  · subst heq; simp
  · simp [hgt.ne, not_lt.2 hgt.le, not_lt.2 (Nat.succ_le_of_lt hgt)]

theorem storeBytes_one (b : Byte) (v : Vector Byte 32) : storeBytes [b] v = v.set 0 b := by
  have h := storeBytes_concat [] b v (by simp)
  rwa [storeBytes_nil] at h

theorem storeBytes_two (b b' : Byte) (v : Vector Byte 32) :
    storeBytes [b, b'] v = (v.set 0 b).set 1 b' := by
  have h := storeBytes_concat [b] b' v (by simp)
  rwa [storeBytes_one] at h

/-- Without an error a command's finish is all that completion does to its results. -/
theorem complete_of_err_eq_none {fin : Finish} {s : State} (h : s.err = .none) :
    complete fin s =
      { applyFinish fin s with valid := true, fsm := .idle, done := true, seq := .none } := by
  have hfin : (applyFinish fin s).err = .none := by
    cases fin <;> simp [applyFinish, h]
  rw [complete, settleResults, if_pos hfin, h]
  rfl

/-- A command that succeeded, before its finish. -/
theorem commandEnd_of_allOk {i : Instr} {e : Effect} (h : AllOk e.evs) (s : State) :
    commandEnd i e s =
      { applyFinish (scriptOf s.cfg i).finish
          (State.withResults { beginFields i s with cs := .high, trace := s.trace ++ e.evs } e.work e.rx)
        with valid := true, fsm := .idle, done := true, seq := .none } := by
  have hleft : e.apply (beginFields i s) =
      State.withResults { beginFields i s with cs := .high, trace := s.trace ++ e.evs } e.work e.rx :=
    congrArg (fun t => State.withResults t e.work e.rx) (h _)
  rw [commandEnd, hleft]
  exact complete_of_err_eq_none rfl

/-- READ_REG, WRITE_REG and BURST_READ, when they succeed. -/
theorem commandEnd_plain {i : Instr} {s : State} {evs : List Event} (h : AllOk evs)
    (hfin : (scriptOf s.cfg i).finish = .plain) (w : Option (Byte × Byte)) (rx : List Byte) :
    commandEnd i ⟨evs, w, rx⟩ s = { s with
      fsm := .idle, seq := .none, cs := .high, cmd := encode i, rcount := resultCount i, err := .none,
      prev := .none, cur := (w.getD (s.cur, s.new)).1, new := (w.getD (s.cur, s.new)).2,
      rdata := storeBytes rx s.rdata, done := true, valid := true, reject := false, rejReason := .none,
      trace := s.trace ++ evs } := by
  have hne : i ≠ .readAxes := by
    rintro rfl
    cases hfin
  rw [commandEnd_of_allOk h, hfin, beginFields, if_neg hne]
  rfl

/-- RMW and SET_FIELD, when they succeed: the two bytes of the read-modify-write are returned. -/
theorem commandEnd_rmwResult {i : Instr} {s : State} {evs : List Event} (h : AllOk evs)
    (hfin : (scriptOf s.cfg i).finish = .rmwResult) (c n : Byte) :
    commandEnd i ⟨evs, some (c, n), []⟩ s = { s with
      fsm := .idle, seq := .none, cs := .high, cmd := encode i, rcount := 2, err := .none,
      prev := .none, cur := c, new := n, rdata := (s.rdata.set 0 c).set 1 n, done := true, valid := true,
      reject := false, rejReason := .none, trace := s.trace ++ evs } := by
  have hne : i ≠ .readAxes := by
    rintro rfl
    cases hfin
  rw [commandEnd_of_allOk h, hfin, beginFields, if_neg hne, resultCount_of_rmwResult hfin,
    ← storeBytes_two]
  simp [applyFinish, State.withResults, State.withData]

end Sys2Proof.Machine
end

section
/-! SUPPORT. The command words as the spec writes them (30_encoding.md R77). -/

namespace Sys2Proof

theorem encode_readReg (a : Byte) : encode (.readReg a) = 0x00000001 ||| a.setWidth 32 <<< 8 := by
  rw [encode, packWord_eq_or]
  simp

theorem encode_writeReg (a b : Byte) :
    encode (.writeReg a b) = 0x00000002 ||| a.setWidth 32 <<< 8 ||| b.setWidth 32 <<< 16 := by
  rw [encode, packWord_eq_or]
  simp

theorem encode_rmw (a clear set : Byte) :
    encode (.rmw a clear set) =
      0x00000003 ||| a.setWidth 32 <<< 8 ||| clear.setWidth 32 <<< 16 ||| set.setWidth 32 <<< 24 := by
  rw [encode, packWord_eq_or]
  simp

theorem encode_setField (f : Field) (code : Byte) :
    encode (.setField f code) =
      0x00000004 ||| f.index.setWidth 32 <<< 4 ||| code.setWidth 32 <<< 16 := by
  rw [encode, packWord_eq_or]
  simp

theorem encode_burstRead (a n : Byte) :
    encode (.burstRead a n) = 0x00000005 ||| a.setWidth 32 <<< 8 ||| n.setWidth 32 <<< 16 := by
  rw [encode, packWord_eq_or]
  simp

end Sys2Proof

end

section
/-! The obligations on the results of single-register commands and of read-modify-writes. -/

namespace Sys2Proof.Machine

/-- Settles O39: one frame of header and placeholder, whose second answer is the byte kept. -/
theorem readRegReturnsTheByte : Obligations.ReadRegReturnsTheByte := by
  intro s a d h v e rest hc hidle hi
  have hr : CommandRuns s.cfg (.readReg a) (okAnswers [d, h, v, e]) ⟨_, none, [v]⟩ :=
    .readReg (okFrameRuns d e [(a ||| 0x80, h)] [v])
  obtain ⟨t, hexec, hrun⟩ := run_command hc hidle hr hi
  rw [commandEnd_plain (allOk_okFrame _) rfl, encode_readReg, storeBytes_one] at hrun
  exact ⟨t, hexec, hrun⟩

/-- Settles O40: one frame of address and data, which reads nothing. -/
theorem writeRegSendsTheByte : Obligations.WriteRegSendsTheByte := by
  intro s a b d x y e rest hc hidle hi
  have hr : CommandRuns s.cfg (.writeReg a b) (okAnswers [d, x, y, e]) ⟨_, none, []⟩ :=
    .writeReg (okFrameRuns d e [(a, x), (b, y)] [])
  obtain ⟨t, hexec, hrun⟩ := run_command hc hidle hr hi
  rw [commandEnd_plain (allOk_okFrame _) rfl, encode_writeReg, storeBytes_nil] at hrun
  exact ⟨t, hexec, hrun⟩

/-- Settles O41: a read-modify-write that succeeds, and returns both of its bytes. -/
theorem rmwWritesTheModifiedByte : Obligations.RmwWritesTheModifiedByte := by
  intro s a clear set d h v e d' x y e' rest hc hidle hi
  have hr : CommandRuns s.cfg (.rmw a clear set) _ _ := .rmw (okRmwRuns a clear set d h v e d' x y e')
  obtain ⟨t, hexec, hrun⟩ := run_command hc hidle hr hi
  rw [commandEnd_rmwResult ((allOk_okFrame _).append (allOk_okFrame _)) rfl, encode_rmw,
    ← List.append_assoc] at hrun
  exact ⟨t, hexec, hrun⟩

/-- Settles O42: the read-modify-write of the field's row, where nothing of a legal code is masked
away. -/
theorem setFieldWritesTheCode : Obligations.SetFieldWritesTheCode := by
  intro s f code d h v e d' x y e' rest hc hidle hcode hi
  have hr : CommandRuns s.cfg (.setField f code) _ _ := .setField (okRmwRuns (descriptor s.cfg f).reg
    (descriptor s.cfg f).mask (fieldSetBits (descriptor s.cfg f) code) d h v e d' x y e')
  obtain ⟨t, hexec, hrun⟩ := run_command hc hidle hr hi
  obtain ⟨hset, -⟩ := fieldSetBits_of_codeOk s.cfg hcode
  rw [commandEnd_rmwResult ((allOk_okFrame _).append (allOk_okFrame _)) rfl, encode_setField,
    ← List.append_assoc, hset] at hrun
  cases f with
  | lpMode =>
    simp only [descriptor, BitVec.shiftLeft_zero] at hrun
    exact ⟨t, hexec, hrun⟩
  | _ => exact ⟨t, hexec, hrun⟩

end Sys2Proof.Machine
end

section
/-! SUPPORT. A burst in which every interaction succeeds (43_burst.md R162, R166). -/

namespace Sys2Proof.Machine

/-- Setting the flag sets bit 2 and nothing else. -/
theorem modifyByte_setFlag (c : Byte) : modifyByte c 0x00 aiMask = c ||| 0x04 := by
  rw [modifyByte, show ~~~(0x00 : Byte) = BitVec.allOnes 8 from rfl, BitVec.and_allOnes]
  rfl

/-- Clearing the flag clears bit 2 and nothing else. -/
theorem modifyByte_clearFlag (c : Byte) : modifyByte c aiMask 0x00 = c &&& 0xFB := by
  simp [modifyByte, aiMask]

/-- The events of a burst that succeeds: the flag is set, the bytes are read, and the flag is
cleared. -/
def okBurstEvents (ai a h1 c1 x2 y2 h3 h4 c4 x5 y5 : Byte) (data : List Byte) : List Event :=
  okFrame [(ai ||| 0x80, h1), (0x00, c1)] ++ okFrame [(ai, x2), (c1 ||| 0x04, y2)] ++
    okFrame ((a ||| 0x80, h3) :: data.map fun v => (0x00, v)) ++
    okFrame [(ai ||| 0x80, h4), (0x00, c4)] ++ okFrame [(ai, x5), (c4 &&& 0xFB, y5)]

theorem allOk_okBurstEvents {ai a h1 c1 x2 y2 h3 h4 c4 x5 y5 : Byte} {data : List Byte} :
    AllOk (okBurstEvents ai a h1 c1 x2 y2 h3 h4 c4 x5 y5 data) :=
  ((((allOk_okFrame _).append (allOk_okFrame _)).append (allOk_okFrame _)).append
    (allOk_okFrame _)).append (allOk_okFrame _)

/-- They follow on the trace frame by frame. -/
theorem append_okBurstEvents (tr : List Event) (ai a h1 c1 x2 y2 h3 h4 c4 x5 y5 : Byte)
    (data : List Byte) :
    tr ++ okBurstEvents ai a h1 c1 x2 y2 h3 h4 c4 x5 y5 data =
      tr ++ okFrame [(ai ||| 0x80, h1), (0x00, c1)] ++ okFrame [(ai, x2), (c1 ||| 0x04, y2)] ++
        okFrame ((a ||| 0x80, h3) :: data.map fun v => (0x00, v)) ++
        okFrame [(ai ||| 0x80, h4), (0x00, c4)] ++ okFrame [(ai, x5), (c4 &&& 0xFB, y5)] := by
  simp only [okBurstEvents, List.append_assoc]

/-- A burst whose answers are all successes. -/
theorem okBurstRuns (ai a d1 h1 c1 e1 d2 x2 y2 e2 d3 h3 e3 d4 h4 c4 e4 d5 x5 y5 e5 : Byte)
    (data : List Byte) :
    BurstRuns ai a data.length
      (okAnswers ([d1, h1, c1, e1, d2, x2, y2, e2, d3, h3] ++ data ++
        [e3, d4, h4, c4, e4, d5, x5, y5, e5]))
      ⟨okBurstEvents ai a h1 c1 x2 y2 h3 h4 c4 x5 y5 data, some (c4, c4 &&& 0xFB), data⟩ := by
  have hset := okRmwRuns ai 0x00 aiMask d1 h1 c1 e1 d2 x2 y2 e2
  have hclear := okRmwRuns ai aiMask 0x00 d4 h4 c4 e4 d5 x5 y5 e5
  have hburst := BurstRuns.dataFrame hset (okFrameRuns d3 e3 [(a ||| 0x80, h3)] data) hclear
  rw [modifyByte_setFlag, modifyByte_clearFlag] at hburst
  convert hburst using 1
  · simp [okAnswers]
  · simp [okBurstEvents]

/-- BURST_READ uses one answer for each byte and 19 more. -/
theorem length_okAnswers_burst (before after data : List Byte) (h : before.length + after.length = 19) :
    (okAnswers (before ++ data ++ after)).length = data.length + 19 := by
  simp only [okAnswers, List.length_map, List.length_append]
  omega

/-- RDATA after a store, entry by entry. -/
theorem storeBytes_eq_ofFn (rx : List Byte) (v : Vector Byte 32) :
    storeBytes rx v = Vector.ofFn fun k => if h : k.val < rx.length then rx[k.val] else v[k] := by
  refine Vector.ext fun k hk => ?_
  rw [storeBytes_get rx v k hk, Vector.getElem_ofFn]
  rfl

theorem storeBytes_six (b0 b1 b2 b3 b4 b5 : Byte) (v : Vector Byte 32) :
    storeBytes [b0, b1, b2, b3, b4, b5] v =
      (((((v.set 0 b0).set 1 b1).set 2 b2).set 3 b3).set 4 b4).set 5 b5 := by
  have h3 : storeBytes [b0, b1, b2] v = (storeBytes [b0, b1] v).set 2 b2 :=
    storeBytes_concat [b0, b1] b2 v (by simp)
  have h4 : storeBytes [b0, b1, b2, b3] v = (storeBytes [b0, b1, b2] v).set 3 b3 :=
    storeBytes_concat [b0, b1, b2] b3 v (by simp)
  have h5 : storeBytes [b0, b1, b2, b3, b4] v = (storeBytes [b0, b1, b2, b3] v).set 4 b4 :=
    storeBytes_concat [b0, b1, b2, b3] b4 v (by simp)
  have h6 : storeBytes [b0, b1, b2, b3, b4, b5] v = (storeBytes [b0, b1, b2, b3, b4] v).set 5 b5 :=
    storeBytes_concat [b0, b1, b2, b3, b4] b5 v (by simp)
  rw [h6, h5, h4, h3, storeBytes_two]

/-- READ_AXES, when it succeeds: the samples are made of the six bytes that were stored. -/
theorem commandEnd_readAxes {s : State} {evs : List Event} (h : AllOk evs)
    (c n xl xh yl yh zl zh : Byte) :
    commandEnd .readAxes ⟨evs, some (c, n), [xl, xh, yl, yh, zl, zh]⟩ s = { s with
      fsm := .idle, seq := .none, cs := .high, cmd := 0x00000006, rcount := 6, err := .none,
      prev := .none, cur := c, new := n,
      rdata := (((((s.rdata.set 0 xl).set 1 xh).set 2 yl).set 3 yh).set 4 zl).set 5 zh,
      axisX := xh ++ xl, axisY := yh ++ yl, axisZ := zh ++ zl, axisValid := true, done := true,
      valid := true, reject := false, rejReason := .none, trace := s.trace ++ evs } := by
  have hget (k : Nat) (hk : k < 6) :
      (storeBytes [xl, xh, yl, yh, zl, zh] s.rdata)[k] = [xl, xh, yl, yh, zl, zh][k] := by
    rw [storeBytes_get _ _ k (by omega), dif_pos (by simpa using hk)]
  have hfin : (scriptOf s.cfg .readAxes).finish = .axes := rfl
  have hword : encode .readAxes = 0x00000006 := by decide
  rw [commandEnd_of_allOk h, hfin, ← storeBytes_six, ← axisSample_eq_append, ← axisSample_eq_append,
    ← axisSample_eq_append, ← hword]
  simp [applyFinish, State.withResults, State.withData, beginFields, resultCount, hget]

end Sys2Proof.Machine
end

section
/-! The obligations on the results of bursts. -/

namespace Sys2Proof.Machine

/-- Settles O43: a burst that succeeds, as long as its count. -/
theorem burstReadReturnsTheBytes : Obligations.BurstReadReturnsTheBytes := by
  intro s a n d1 h1 c1 e1 d2 x2 y2 e2 d3 h3 e3 d4 h4 c4 e4 d5 x5 y5 e5 data rest hc hidle _ hlen hi
  have hburst := okBurstRuns s.cfg.aiReg a d1 h1 c1 e1 d2 x2 y2 e2 d3 h3 e3 d4 h4 c4 e4 d5 x5 y5 e5 data
  rw [hlen] at hburst
  have hr : CommandRuns s.cfg (.burstRead a n) _ _ := .burstRead hburst
  obtain ⟨t, hexec, hrun⟩ := run_command hc hidle hr hi
  rw [length_okAnswers_burst _ _ _ rfl, hlen, commandEnd_plain allOk_okBurstEvents rfl,
    encode_burstRead, storeBytes_eq_ofFn, append_okBurstEvents] at hrun
  refine ⟨t, hexec, hrun.trans ?_⟩
  rw [BitVec.ofNat_toNat]
  rfl

/-- Settles O44: a burst of six that succeeds, and the samples of its six bytes. -/
theorem readAxesReassemblesTheSamples : Obligations.ReadAxesReassemblesTheSamples := by
  intro s xl xh yl yh zl zh d1 h1 c1 e1 d2 x2 y2 e2 d3 h3 e3 d4 h4 c4 e4 d5 x5 y5 e5 rest hc hidle hi
  have hr : CommandRuns s.cfg .readAxes _ _ := .readAxes (okBurstRuns s.cfg.aiReg s.cfg.xlAddr
    d1 h1 c1 e1 d2 x2 y2 e2 d3 h3 e3 d4 h4 c4 e4 d5 x5 y5 e5 [xl, xh, yl, yh, zl, zh])
  obtain ⟨t, hexec, hrun⟩ := run_command hc hidle hr hi
  rw [commandEnd_readAxes allOk_okBurstEvents, append_okBurstEvents] at hrun
  exact ⟨t, hexec, hrun⟩

end Sys2Proof.Machine
end
